-- ==== Sys2Proof/Word.lean ====
section
/-! DEFINITION. The two widths of the machine: an 8-bit byte and a 16-bit address (spec/00_scope.md R4, R5). -/

namespace Sys2Proof

/-- Eight bits: the data width; A, X, Y, S, P and every memory location (R4, R10). -/
abbrev Byte := BitVec 8

/-- Sixteen bits: the address width; PC, effective addresses, pointers and vectors (R4, R10). -/
abbrev Word := BitVec 16

end Sys2Proof
end

