-- ==== Sys2Proof/Config.lean ====
section
/-! DEFINITION. What the spec leaves OPEN and fixes for one machine (spec/92_eei_decisions.md, "OPEN parameters in one
place"): the environment behind the bus, RAM at power-up, the reset credit.  Each is a free value: an opaque constant
with no body, so nothing in Lean can evaluate it, and a claim holds whatever it is. -/

namespace Sys2Proof

/-- What crosses the boundary of the CPU block, one event each: the transactions of the bus port (R31), the counts (R200),
and what changes the environment from outside (R45).  The events of addresses outside RAM, the counts and the outside
changes stand for the environment's state `E` of R41 (log 34); `State.history` picks them out. -/
inductive Event where
  /-- A bus read of `addr`, answered with `v` (R31). -/
  | read (addr : Word) (v : Byte)
  /-- A bus write of `v` at `addr` (R31). -/
  | write (addr : Word) (v : Byte)
  /-- The PPU and the APU are advanced for `n` CPU cycles: the count a step reported (R200, D19). -/
  | tick (n : Nat)
  /-- Anything else that changes the environment between two steps (R45), told apart by `k`. -/
  | outside (k : Nat)
  deriving DecidableEq, Repr

/-- FREE VALUE (log 34).  The answer of the environment `Dev` (R41) to a read of an address outside RAM, after the given
history, newest event first, in which no access to RAM stands (R35, R36).  `Dev.read` and `Dev.write` are functions of an environment state of which "the CPU rules assume nothing";
every such environment, started in any state, answers some function of the history. -/
opaque Config.devRead : List Event → Word → Byte

/-- FREE VALUE (log 35).  The byte of RAM at index `k` at power-up, `ram_init` (R35, D31): "a model must not assume
zero". -/
opaque Config.ramInit : Nat → Byte

/-- FREE VALUE (log 43).  `RESET_CYCLES`, the cycles the driver credits to the PPU and the APU for a reset (R192). -/
opaque Config.resetCycles : Nat

end Sys2Proof
end

