-- ==== Sys2Proof/Syntax.lean ====
section
/-! DEFINITION. The instructions: one constructor for each of the 256 rows of spec/opcode_table.json
(spec/30_encoding.md R66, R67).  A constructor's name is the row's mnemonic followed by its format; the formats
IMP and REL, and the ABS of JSR, are the only ones their mnemonics have and add nothing to the name.  `illegalXY`
is the unassigned opcode byte 0xXY. -/

namespace Sys2Proof

/-- An instruction, with its operand bytes: 8 bits for IMM (R55), ZP, ZPX, ZPY, INDX, INDY (R56-R58, R63, R64) and
REL (R65); 16 bits for ABS, ABSX, ABSY (R59-R61) and IND (R62). -/
inductive Instr where
  -- Loads and stores (spec/40_load_store.md)
  | ldaImm (imm : Byte)
  | ldaZp (zp : Byte)
  | ldaZpx (zp : Byte)
  | ldaAbs (addr : Word)
  | ldaAbsx (addr : Word)
  | ldaAbsy (addr : Word)
  | ldaIndx (zp : Byte)
  | ldaIndy (zp : Byte)
  | ldxImm (imm : Byte)
  | ldxZp (zp : Byte)
  | ldxZpy (zp : Byte)
  | ldxAbs (addr : Word)
  | ldxAbsy (addr : Word)
  | ldyImm (imm : Byte)
  | ldyZp (zp : Byte)
  | ldyZpx (zp : Byte)
  | ldyAbs (addr : Word)
  | ldyAbsx (addr : Word)
  | staZp (zp : Byte)
  | staZpx (zp : Byte)
  | staAbs (addr : Word)
  | staAbsx (addr : Word)
  | staAbsy (addr : Word)
  | staIndx (zp : Byte)
  | staIndy (zp : Byte)
  | stxZp (zp : Byte)
  | stxZpy (zp : Byte)
  | stxAbs (addr : Word)
  | styZp (zp : Byte)
  | styZpx (zp : Byte)
  | styAbs (addr : Word)
  -- Register transfers and stack (spec/41_transfer_stack.md)
  | tax
  | tay
  | txa
  | tya
  | tsx
  | txs
  | pha
  | php
  | pla
  | plp
  -- Arithmetic and compare (spec/42_arithmetic.md)
  | adcImm (imm : Byte)
  | adcZp (zp : Byte)
  | adcZpx (zp : Byte)
  | adcAbs (addr : Word)
  | adcAbsx (addr : Word)
  | adcAbsy (addr : Word)
  | adcIndx (zp : Byte)
  | adcIndy (zp : Byte)
  | sbcImm (imm : Byte)
  | sbcZp (zp : Byte)
  | sbcZpx (zp : Byte)
  | sbcAbs (addr : Word)
  | sbcAbsx (addr : Word)
  | sbcAbsy (addr : Word)
  | sbcIndx (zp : Byte)
  | sbcIndy (zp : Byte)
  | cmpImm (imm : Byte)
  | cmpZp (zp : Byte)
  | cmpZpx (zp : Byte)
  | cmpAbs (addr : Word)
  | cmpAbsx (addr : Word)
  | cmpAbsy (addr : Word)
  | cmpIndx (zp : Byte)
  | cmpIndy (zp : Byte)
  | cpxImm (imm : Byte)
  | cpxZp (zp : Byte)
  | cpxAbs (addr : Word)
  | cpyImm (imm : Byte)
  | cpyZp (zp : Byte)
  | cpyAbs (addr : Word)
  -- Logic, bit test, shifts and rotates (spec/43_logic_shift.md)
  | andImm (imm : Byte)
  | andZp (zp : Byte)
  | andZpx (zp : Byte)
  | andAbs (addr : Word)
  | andAbsx (addr : Word)
  | andAbsy (addr : Word)
  | andIndx (zp : Byte)
  | andIndy (zp : Byte)
  | oraImm (imm : Byte)
  | oraZp (zp : Byte)
  | oraZpx (zp : Byte)
  | oraAbs (addr : Word)
  | oraAbsx (addr : Word)
  | oraAbsy (addr : Word)
  | oraIndx (zp : Byte)
  | oraIndy (zp : Byte)
  | eorImm (imm : Byte)
  | eorZp (zp : Byte)
  | eorZpx (zp : Byte)
  | eorAbs (addr : Word)
  | eorAbsx (addr : Word)
  | eorAbsy (addr : Word)
  | eorIndx (zp : Byte)
  | eorIndy (zp : Byte)
  | bitZp (zp : Byte)
  | bitAbs (addr : Word)
  | aslAcc
  | aslZp (zp : Byte)
  | aslZpx (zp : Byte)
  | aslAbs (addr : Word)
  | aslAbsx (addr : Word)
  | lsrAcc
  | lsrZp (zp : Byte)
  | lsrZpx (zp : Byte)
  | lsrAbs (addr : Word)
  | lsrAbsx (addr : Word)
  | rolAcc
  | rolZp (zp : Byte)
  | rolZpx (zp : Byte)
  | rolAbs (addr : Word)
  | rolAbsx (addr : Word)
  | rorAcc
  | rorZp (zp : Byte)
  | rorZpx (zp : Byte)
  | rorAbs (addr : Word)
  | rorAbsx (addr : Word)
  -- Increment and decrement (spec/44_incdec.md)
  | incZp (zp : Byte)
  | incZpx (zp : Byte)
  | incAbs (addr : Word)
  | incAbsx (addr : Word)
  | decZp (zp : Byte)
  | decZpx (zp : Byte)
  | decAbs (addr : Word)
  | decAbsx (addr : Word)
  | inx
  | iny
  | dex
  | dey
  -- Control transfer (spec/45_control.md)
  | jmpAbs (addr : Word)
  | jmpInd (ptr : Word)
  | jsr (addr : Word)
  | rts
  | bpl (rel : Byte)
  | bmi (rel : Byte)
  | bvc (rel : Byte)
  | bvs (rel : Byte)
  | bcc (rel : Byte)
  | bcs (rel : Byte)
  | bne (rel : Byte)
  | beq (rel : Byte)
  -- Flags, no-operation, system (spec/46_flags_system.md)
  | clc
  | sec
  | cli
  | sei
  | clv
  | cld
  | sed
  | nop
  | brk
  | rti
  -- The 105 unassigned opcode bytes (spec/47_illegal.md)
  | illegal02
  | illegal03
  | illegal04
  | illegal07
  | illegal0B
  | illegal0C
  | illegal0F
  | illegal12
  | illegal13
  | illegal14
  | illegal17
  | illegal1A
  | illegal1B
  | illegal1C
  | illegal1F
  | illegal22
  | illegal23
  | illegal27
  | illegal2B
  | illegal2F
  | illegal32
  | illegal33
  | illegal34
  | illegal37
  | illegal3A
  | illegal3B
  | illegal3C
  | illegal3F
  | illegal42
  | illegal43
  | illegal44
  | illegal47
  | illegal4B
  | illegal4F
  | illegal52
  | illegal53
  | illegal54
  | illegal57
  | illegal5A
  | illegal5B
  | illegal5C
  | illegal5F
  | illegal62
  | illegal63
  | illegal64
  | illegal67
  | illegal6B
  | illegal6F
  | illegal72
  | illegal73
  | illegal74
  | illegal77
  | illegal7A
  | illegal7B
  | illegal7C
  | illegal7F
  | illegal80
  | illegal82
  | illegal83
  | illegal87
  | illegal89
  | illegal8B
  | illegal8F
  | illegal92
  | illegal93
  | illegal97
  | illegal9B
  | illegal9C
  | illegal9E
  | illegal9F
  | illegalA3
  | illegalA7
  | illegalAB
  | illegalAF
  | illegalB2
  | illegalB3
  | illegalB7
  | illegalBB
  | illegalBF
  | illegalC2
  | illegalC3
  | illegalC7
  | illegalCB
  | illegalCF
  | illegalD2
  | illegalD3
  | illegalD4
  | illegalD7
  | illegalDA
  | illegalDB
  | illegalDC
  | illegalDF
  | illegalE2
  | illegalE3
  | illegalE7
  | illegalEB
  | illegalEF
  | illegalF2
  | illegalF3
  | illegalF4
  | illegalF7
  | illegalFA
  | illegalFB
  | illegalFC
  | illegalFF
  deriving DecidableEq, Repr

end Sys2Proof
end

