-- ==== Sys2Proof/WellFormed.lean ====
section
/-! DEFINITION. Static checks on an instruction. -/

namespace Sys2Proof

/-- Is the instruction one of the 151 assigned opcodes (R66), not one of the 105 unassigned bytes (R67)?
The unassigned ones are instructions of the model too: their meaning is to raise `DecodeError` (R160). -/
def Instr.isAssigned : Instr → Bool
  | .ldaImm _ | .ldaZp _ | .ldaZpx _ | .ldaAbs _ | .ldaAbsx _ | .ldaAbsy _ | .ldaIndx _ | .ldaIndy _ | .ldxImm _
  | .ldxZp _ | .ldxZpy _ | .ldxAbs _ | .ldxAbsy _ | .ldyImm _ | .ldyZp _ | .ldyZpx _ | .ldyAbs _ | .ldyAbsx _
  | .staZp _ | .staZpx _ | .staAbs _ | .staAbsx _ | .staAbsy _ | .staIndx _ | .staIndy _ | .stxZp _ | .stxZpy _
  | .stxAbs _ | .styZp _ | .styZpx _ | .styAbs _ | .tax | .tay | .txa | .tya | .tsx | .txs | .pha | .php | .pla
  | .plp | .adcImm _ | .adcZp _ | .adcZpx _ | .adcAbs _ | .adcAbsx _ | .adcAbsy _ | .adcIndx _ | .adcIndy _
  | .sbcImm _ | .sbcZp _ | .sbcZpx _ | .sbcAbs _ | .sbcAbsx _ | .sbcAbsy _ | .sbcIndx _ | .sbcIndy _ | .cmpImm _
  | .cmpZp _ | .cmpZpx _ | .cmpAbs _ | .cmpAbsx _ | .cmpAbsy _ | .cmpIndx _ | .cmpIndy _ | .cpxImm _ | .cpxZp _
  | .cpxAbs _ | .cpyImm _ | .cpyZp _ | .cpyAbs _ | .andImm _ | .andZp _ | .andZpx _ | .andAbs _ | .andAbsx _
  | .andAbsy _ | .andIndx _ | .andIndy _ | .oraImm _ | .oraZp _ | .oraZpx _ | .oraAbs _ | .oraAbsx _
  | .oraAbsy _ | .oraIndx _ | .oraIndy _ | .eorImm _ | .eorZp _ | .eorZpx _ | .eorAbs _ | .eorAbsx _
  | .eorAbsy _ | .eorIndx _ | .eorIndy _ | .bitZp _ | .bitAbs _ | .aslAcc | .aslZp _ | .aslZpx _ | .aslAbs _
  | .aslAbsx _ | .lsrAcc | .lsrZp _ | .lsrZpx _ | .lsrAbs _ | .lsrAbsx _ | .rolAcc | .rolZp _ | .rolZpx _
  | .rolAbs _ | .rolAbsx _ | .rorAcc | .rorZp _ | .rorZpx _ | .rorAbs _ | .rorAbsx _ | .incZp _ | .incZpx _
  | .incAbs _ | .incAbsx _ | .decZp _ | .decZpx _ | .decAbs _ | .decAbsx _ | .inx | .iny | .dex | .dey
  | .jmpAbs _ | .jmpInd _ | .jsr _ | .rts | .bpl _ | .bmi _ | .bvc _ | .bvs _ | .bcc _ | .bcs _ | .bne _
  | .beq _ | .clc | .sec | .cli | .sei | .clv | .cld | .sed | .nop | .brk | .rti => true
  | .illegal02 | .illegal03 | .illegal04 | .illegal07 | .illegal0B | .illegal0C | .illegal0F | .illegal12
  | .illegal13 | .illegal14 | .illegal17 | .illegal1A | .illegal1B | .illegal1C | .illegal1F | .illegal22
  | .illegal23 | .illegal27 | .illegal2B | .illegal2F | .illegal32 | .illegal33 | .illegal34 | .illegal37
  | .illegal3A | .illegal3B | .illegal3C | .illegal3F | .illegal42 | .illegal43 | .illegal44 | .illegal47
  | .illegal4B | .illegal4F | .illegal52 | .illegal53 | .illegal54 | .illegal57 | .illegal5A | .illegal5B
  | .illegal5C | .illegal5F | .illegal62 | .illegal63 | .illegal64 | .illegal67 | .illegal6B | .illegal6F
  | .illegal72 | .illegal73 | .illegal74 | .illegal77 | .illegal7A | .illegal7B | .illegal7C | .illegal7F
  | .illegal80 | .illegal82 | .illegal83 | .illegal87 | .illegal89 | .illegal8B | .illegal8F | .illegal92
  | .illegal93 | .illegal97 | .illegal9B | .illegal9C | .illegal9E | .illegal9F | .illegalA3 | .illegalA7
  | .illegalAB | .illegalAF | .illegalB2 | .illegalB3 | .illegalB7 | .illegalBB | .illegalBF | .illegalC2
  | .illegalC3 | .illegalC7 | .illegalCB | .illegalCF | .illegalD2 | .illegalD3 | .illegalD4 | .illegalD7
  | .illegalDA | .illegalDB | .illegalDC | .illegalDF | .illegalE2 | .illegalE3 | .illegalE7 | .illegalEB
  | .illegalEF | .illegalF2 | .illegalF3 | .illegalF4 | .illegalF7 | .illegalFA | .illegalFB | .illegalFC
  | .illegalFF => false

/-- Every term of `Instr` is well formed.  "The operand bytes carry no reserved fields (every value of every operand
byte is meaningful)" (R67), a constructor carries exactly the operand of its format (R51), and an unassigned opcode
byte carries none (R160): there is nothing to check, so there is no ill-formed term. -/
def Instr.WellFormed (_ : Instr) : Bool := true

end Sys2Proof
end

