-- ==== Sys2Proof/Decode.lean ====
section
/-! DEFINITION. Bytes to instructions and back (spec/30_encoding.md R50-R52, R66, R67): the helpers on bytes and
words, the opcode matrix, the decoder, the encoder, and the host's `decodeTableWord`. -/

namespace Sys2Proof

/-! Bytes and words (R5, R43). -/

/-- `(h:l)`, the 16-bit concatenation `h*256 + l` (R5). -/
def mkWord (h l : Byte) : Word := h ++ l

/-- `lo(w) = w[7:0]` (R5). -/
def loByte (w : Word) : Byte := w.setWidth 8

/-- `hi(w) = w[15:8]` (R5); also `page(w)`. -/
def hiByte (w : Word) : Byte := (w >>> 8).setWidth 8

/-! The opcode matrix. -/

/-- A cell of the opcode matrix: the opcode byte alone decides the operation, the format and the length (R50), so a
cell says how many operand bytes follow and which instruction they make. -/
inductive Entry where
  /-- Length 1: IMP, ACC (R53, R54), or an unassigned byte (R160). -/
  | one (i : Instr)
  /-- Length 2: IMM, ZP, ZPX, ZPY, INDX, INDY, REL; byte 1 is the operand (R51). -/
  | two (f : Byte → Instr)
  /-- Length 3: ABS, ABSX, ABSY, IND; byte 1 is the operand's low byte, byte 2 its high byte (R51, R43). -/
  | three (f : Word → Instr)

/-- Bytes the instruction takes, opcode included (R51). -/
def Entry.length : Entry → Nat
  | .one _ => 1
  | .two _ => 2
  | .three _ => 3

/-- The matrix of R66, a row for each value of opcode[7:4], in each row a cell for each value of opcode[3:0]. -/
def opcodeMatrix : Vector (Vector Entry 16) 16 :=
  #v[
    -- 0x
    #v[.one .brk, .two .oraIndx, .one .illegal02, .one .illegal03, .one .illegal04, .two .oraZp, .two .aslZp,
      .one .illegal07, .one .php, .two .oraImm, .one .aslAcc, .one .illegal0B, .one .illegal0C, .three .oraAbs,
      .three .aslAbs, .one .illegal0F],
    -- 1x
    #v[.two .bpl, .two .oraIndy, .one .illegal12, .one .illegal13, .one .illegal14, .two .oraZpx, .two .aslZpx,
      .one .illegal17, .one .clc, .three .oraAbsy, .one .illegal1A, .one .illegal1B, .one .illegal1C,
      .three .oraAbsx, .three .aslAbsx, .one .illegal1F],
    -- 2x
    #v[.three .jsr, .two .andIndx, .one .illegal22, .one .illegal23, .two .bitZp, .two .andZp, .two .rolZp,
      .one .illegal27, .one .plp, .two .andImm, .one .rolAcc, .one .illegal2B, .three .bitAbs, .three .andAbs,
      .three .rolAbs, .one .illegal2F],
    -- 3x
    #v[.two .bmi, .two .andIndy, .one .illegal32, .one .illegal33, .one .illegal34, .two .andZpx, .two .rolZpx,
      .one .illegal37, .one .sec, .three .andAbsy, .one .illegal3A, .one .illegal3B, .one .illegal3C,
      .three .andAbsx, .three .rolAbsx, .one .illegal3F],
    -- 4x
    #v[.one .rti, .two .eorIndx, .one .illegal42, .one .illegal43, .one .illegal44, .two .eorZp, .two .lsrZp,
      .one .illegal47, .one .pha, .two .eorImm, .one .lsrAcc, .one .illegal4B, .three .jmpAbs, .three .eorAbs,
      .three .lsrAbs, .one .illegal4F],
    -- 5x
    #v[.two .bvc, .two .eorIndy, .one .illegal52, .one .illegal53, .one .illegal54, .two .eorZpx, .two .lsrZpx,
      .one .illegal57, .one .cli, .three .eorAbsy, .one .illegal5A, .one .illegal5B, .one .illegal5C,
      .three .eorAbsx, .three .lsrAbsx, .one .illegal5F],
    -- 6x
    #v[.one .rts, .two .adcIndx, .one .illegal62, .one .illegal63, .one .illegal64, .two .adcZp, .two .rorZp,
      .one .illegal67, .one .pla, .two .adcImm, .one .rorAcc, .one .illegal6B, .three .jmpInd, .three .adcAbs,
      .three .rorAbs, .one .illegal6F],
    -- 7x
    #v[.two .bvs, .two .adcIndy, .one .illegal72, .one .illegal73, .one .illegal74, .two .adcZpx, .two .rorZpx,
      .one .illegal77, .one .sei, .three .adcAbsy, .one .illegal7A, .one .illegal7B, .one .illegal7C,
      .three .adcAbsx, .three .rorAbsx, .one .illegal7F],
    -- 8x
    #v[.one .illegal80, .two .staIndx, .one .illegal82, .one .illegal83, .two .styZp, .two .staZp, .two .stxZp,
      .one .illegal87, .one .dey, .one .illegal89, .one .txa, .one .illegal8B, .three .styAbs, .three .staAbs,
      .three .stxAbs, .one .illegal8F],
    -- 9x
    #v[.two .bcc, .two .staIndy, .one .illegal92, .one .illegal93, .two .styZpx, .two .staZpx, .two .stxZpy,
      .one .illegal97, .one .tya, .three .staAbsy, .one .txs, .one .illegal9B, .one .illegal9C, .three .staAbsx,
      .one .illegal9E, .one .illegal9F],
    -- Ax
    #v[.two .ldyImm, .two .ldaIndx, .two .ldxImm, .one .illegalA3, .two .ldyZp, .two .ldaZp, .two .ldxZp,
      .one .illegalA7, .one .tay, .two .ldaImm, .one .tax, .one .illegalAB, .three .ldyAbs, .three .ldaAbs,
      .three .ldxAbs, .one .illegalAF],
    -- Bx
    #v[.two .bcs, .two .ldaIndy, .one .illegalB2, .one .illegalB3, .two .ldyZpx, .two .ldaZpx, .two .ldxZpy,
      .one .illegalB7, .one .clv, .three .ldaAbsy, .one .tsx, .one .illegalBB, .three .ldyAbsx, .three .ldaAbsx,
      .three .ldxAbsy, .one .illegalBF],
    -- Cx
    #v[.two .cpyImm, .two .cmpIndx, .one .illegalC2, .one .illegalC3, .two .cpyZp, .two .cmpZp, .two .decZp,
      .one .illegalC7, .one .iny, .two .cmpImm, .one .dex, .one .illegalCB, .three .cpyAbs, .three .cmpAbs,
      .three .decAbs, .one .illegalCF],
    -- Dx
    #v[.two .bne, .two .cmpIndy, .one .illegalD2, .one .illegalD3, .one .illegalD4, .two .cmpZpx, .two .decZpx,
      .one .illegalD7, .one .cld, .three .cmpAbsy, .one .illegalDA, .one .illegalDB, .one .illegalDC,
      .three .cmpAbsx, .three .decAbsx, .one .illegalDF],
    -- Ex
    #v[.two .cpxImm, .two .sbcIndx, .one .illegalE2, .one .illegalE3, .two .cpxZp, .two .sbcZp, .two .incZp,
      .one .illegalE7, .one .inx, .two .sbcImm, .one .nop, .one .illegalEB, .three .cpxAbs, .three .sbcAbs,
      .three .incAbs, .one .illegalEF],
    -- Fx
    #v[.two .beq, .two .sbcIndy, .one .illegalF2, .one .illegalF3, .one .illegalF4, .two .sbcZpx, .two .incZpx,
      .one .illegalF7, .one .sed, .three .sbcAbsy, .one .illegalFA, .one .illegalFB, .one .illegalFC,
      .three .sbcAbsx, .three .incAbsx, .one .illegalFF]
  ]

/-- The matrix cell of an opcode byte. -/
def opcodeEntry (op : Byte) : Entry :=
  (opcodeMatrix[op.toNat / 16]'(by have := op.isLt; omega))[op.toNat % 16]'(by omega)

/-! The decoder. -/

/-- Why a list of bytes is no instruction.  Every opcode byte has a meaning (R67: "151 + 105 = 256"), so the only
reason is that bytes are missing. -/
inductive Reject where
  /-- There is no opcode byte. -/
  | noBytes
  /-- The opcode's operand bytes are not all there. -/
  | truncated (opcode : Byte)
  deriving DecidableEq, Repr

/-- The instruction at the head of a list of bytes, and the bytes after it (R50-R52). -/
def decode : List Byte → Except Reject (Instr × List Byte)
  | [] => .error .noBytes
  | op :: rest =>
    match opcodeEntry op, rest with
    | .one i, rest => .ok (i, rest)
    | .two f, b1 :: rest => .ok (f b1, rest)
    | .three f, b1 :: b2 :: rest => .ok (f (mkWord b2 b1), rest)
    | .two _, [] | .three _, [] | .three _, [_] => .error (.truncated op)

/-! The encoder, from the spec's second table (R66, "the same map by mnemonic"). -/

/-- The bytes of an instruction: the opcode byte, then the operand, low byte first (R50, R51, R43). -/
def encode : Instr → List Byte
  | .ldaImm b => [0xA9, b]
  | .ldaZp b => [0xA5, b]
  | .ldaZpx b => [0xB5, b]
  | .ldaAbs w => [0xAD, loByte w, hiByte w]
  | .ldaAbsx w => [0xBD, loByte w, hiByte w]
  | .ldaAbsy w => [0xB9, loByte w, hiByte w]
  | .ldaIndx b => [0xA1, b]
  | .ldaIndy b => [0xB1, b]
  | .ldxImm b => [0xA2, b]
  | .ldxZp b => [0xA6, b]
  | .ldxZpy b => [0xB6, b]
  | .ldxAbs w => [0xAE, loByte w, hiByte w]
  | .ldxAbsy w => [0xBE, loByte w, hiByte w]
  | .ldyImm b => [0xA0, b]
  | .ldyZp b => [0xA4, b]
  | .ldyZpx b => [0xB4, b]
  | .ldyAbs w => [0xAC, loByte w, hiByte w]
  | .ldyAbsx w => [0xBC, loByte w, hiByte w]
  | .staZp b => [0x85, b]
  | .staZpx b => [0x95, b]
  | .staAbs w => [0x8D, loByte w, hiByte w]
  | .staAbsx w => [0x9D, loByte w, hiByte w]
  | .staAbsy w => [0x99, loByte w, hiByte w]
  | .staIndx b => [0x81, b]
  | .staIndy b => [0x91, b]
  | .stxZp b => [0x86, b]
  | .stxZpy b => [0x96, b]
  | .stxAbs w => [0x8E, loByte w, hiByte w]
  | .styZp b => [0x84, b]
  | .styZpx b => [0x94, b]
  | .styAbs w => [0x8C, loByte w, hiByte w]
  | .tax => [0xAA]
  | .tay => [0xA8]
  | .txa => [0x8A]
  | .tya => [0x98]
  | .tsx => [0xBA]
  | .txs => [0x9A]
  | .pha => [0x48]
  | .php => [0x08]
  | .pla => [0x68]
  | .plp => [0x28]
  | .adcImm b => [0x69, b]
  | .adcZp b => [0x65, b]
  | .adcZpx b => [0x75, b]
  | .adcAbs w => [0x6D, loByte w, hiByte w]
  | .adcAbsx w => [0x7D, loByte w, hiByte w]
  | .adcAbsy w => [0x79, loByte w, hiByte w]
  | .adcIndx b => [0x61, b]
  | .adcIndy b => [0x71, b]
  | .sbcImm b => [0xE9, b]
  | .sbcZp b => [0xE5, b]
  | .sbcZpx b => [0xF5, b]
  | .sbcAbs w => [0xED, loByte w, hiByte w]
  | .sbcAbsx w => [0xFD, loByte w, hiByte w]
  | .sbcAbsy w => [0xF9, loByte w, hiByte w]
  | .sbcIndx b => [0xE1, b]
  | .sbcIndy b => [0xF1, b]
  | .cmpImm b => [0xC9, b]
  | .cmpZp b => [0xC5, b]
  | .cmpZpx b => [0xD5, b]
  | .cmpAbs w => [0xCD, loByte w, hiByte w]
  | .cmpAbsx w => [0xDD, loByte w, hiByte w]
  | .cmpAbsy w => [0xD9, loByte w, hiByte w]
  | .cmpIndx b => [0xC1, b]
  | .cmpIndy b => [0xD1, b]
  | .cpxImm b => [0xE0, b]
  | .cpxZp b => [0xE4, b]
  | .cpxAbs w => [0xEC, loByte w, hiByte w]
  | .cpyImm b => [0xC0, b]
  | .cpyZp b => [0xC4, b]
  | .cpyAbs w => [0xCC, loByte w, hiByte w]
  | .andImm b => [0x29, b]
  | .andZp b => [0x25, b]
  | .andZpx b => [0x35, b]
  | .andAbs w => [0x2D, loByte w, hiByte w]
  | .andAbsx w => [0x3D, loByte w, hiByte w]
  | .andAbsy w => [0x39, loByte w, hiByte w]
  | .andIndx b => [0x21, b]
  | .andIndy b => [0x31, b]
  | .oraImm b => [0x09, b]
  | .oraZp b => [0x05, b]
  | .oraZpx b => [0x15, b]
  | .oraAbs w => [0x0D, loByte w, hiByte w]
  | .oraAbsx w => [0x1D, loByte w, hiByte w]
  | .oraAbsy w => [0x19, loByte w, hiByte w]
  | .oraIndx b => [0x01, b]
  | .oraIndy b => [0x11, b]
  | .eorImm b => [0x49, b]
  | .eorZp b => [0x45, b]
  | .eorZpx b => [0x55, b]
  | .eorAbs w => [0x4D, loByte w, hiByte w]
  | .eorAbsx w => [0x5D, loByte w, hiByte w]
  | .eorAbsy w => [0x59, loByte w, hiByte w]
  | .eorIndx b => [0x41, b]
  | .eorIndy b => [0x51, b]
  | .bitZp b => [0x24, b]
  | .bitAbs w => [0x2C, loByte w, hiByte w]
  | .aslAcc => [0x0A]
  | .aslZp b => [0x06, b]
  | .aslZpx b => [0x16, b]
  | .aslAbs w => [0x0E, loByte w, hiByte w]
  | .aslAbsx w => [0x1E, loByte w, hiByte w]
  | .lsrAcc => [0x4A]
  | .lsrZp b => [0x46, b]
  | .lsrZpx b => [0x56, b]
  | .lsrAbs w => [0x4E, loByte w, hiByte w]
  | .lsrAbsx w => [0x5E, loByte w, hiByte w]
  | .rolAcc => [0x2A]
  | .rolZp b => [0x26, b]
  | .rolZpx b => [0x36, b]
  | .rolAbs w => [0x2E, loByte w, hiByte w]
  | .rolAbsx w => [0x3E, loByte w, hiByte w]
  | .rorAcc => [0x6A]
  | .rorZp b => [0x66, b]
  | .rorZpx b => [0x76, b]
  | .rorAbs w => [0x6E, loByte w, hiByte w]
  | .rorAbsx w => [0x7E, loByte w, hiByte w]
  | .incZp b => [0xE6, b]
  | .incZpx b => [0xF6, b]
  | .incAbs w => [0xEE, loByte w, hiByte w]
  | .incAbsx w => [0xFE, loByte w, hiByte w]
  | .decZp b => [0xC6, b]
  | .decZpx b => [0xD6, b]
  | .decAbs w => [0xCE, loByte w, hiByte w]
  | .decAbsx w => [0xDE, loByte w, hiByte w]
  | .inx => [0xE8]
  | .iny => [0xC8]
  | .dex => [0xCA]
  | .dey => [0x88]
  | .jmpAbs w => [0x4C, loByte w, hiByte w]
  | .jmpInd w => [0x6C, loByte w, hiByte w]
  | .jsr w => [0x20, loByte w, hiByte w]
  | .rts => [0x60]
  | .bpl b => [0x10, b]
  | .bmi b => [0x30, b]
  | .bvc b => [0x50, b]
  | .bvs b => [0x70, b]
  | .bcc b => [0x90, b]
  | .bcs b => [0xB0, b]
  | .bne b => [0xD0, b]
  | .beq b => [0xF0, b]
  | .clc => [0x18]
  | .sec => [0x38]
  | .cli => [0x58]
  | .sei => [0x78]
  | .clv => [0xB8]
  | .cld => [0xD8]
  | .sed => [0xF8]
  | .nop => [0xEA]
  | .brk => [0x00]
  | .rti => [0x40]
  | .illegal02 => [0x02]
  | .illegal03 => [0x03]
  | .illegal04 => [0x04]
  | .illegal07 => [0x07]
  | .illegal0B => [0x0B]
  | .illegal0C => [0x0C]
  | .illegal0F => [0x0F]
  | .illegal12 => [0x12]
  | .illegal13 => [0x13]
  | .illegal14 => [0x14]
  | .illegal17 => [0x17]
  | .illegal1A => [0x1A]
  | .illegal1B => [0x1B]
  | .illegal1C => [0x1C]
  | .illegal1F => [0x1F]
  | .illegal22 => [0x22]
  | .illegal23 => [0x23]
  | .illegal27 => [0x27]
  | .illegal2B => [0x2B]
  | .illegal2F => [0x2F]
  | .illegal32 => [0x32]
  | .illegal33 => [0x33]
  | .illegal34 => [0x34]
  | .illegal37 => [0x37]
  | .illegal3A => [0x3A]
  | .illegal3B => [0x3B]
  | .illegal3C => [0x3C]
  | .illegal3F => [0x3F]
  | .illegal42 => [0x42]
  | .illegal43 => [0x43]
  | .illegal44 => [0x44]
  | .illegal47 => [0x47]
  | .illegal4B => [0x4B]
  | .illegal4F => [0x4F]
  | .illegal52 => [0x52]
  | .illegal53 => [0x53]
  | .illegal54 => [0x54]
  | .illegal57 => [0x57]
  | .illegal5A => [0x5A]
  | .illegal5B => [0x5B]
  | .illegal5C => [0x5C]
  | .illegal5F => [0x5F]
  | .illegal62 => [0x62]
  | .illegal63 => [0x63]
  | .illegal64 => [0x64]
  | .illegal67 => [0x67]
  | .illegal6B => [0x6B]
  | .illegal6F => [0x6F]
  | .illegal72 => [0x72]
  | .illegal73 => [0x73]
  | .illegal74 => [0x74]
  | .illegal77 => [0x77]
  | .illegal7A => [0x7A]
  | .illegal7B => [0x7B]
  | .illegal7C => [0x7C]
  | .illegal7F => [0x7F]
  | .illegal80 => [0x80]
  | .illegal82 => [0x82]
  | .illegal83 => [0x83]
  | .illegal87 => [0x87]
  | .illegal89 => [0x89]
  | .illegal8B => [0x8B]
  | .illegal8F => [0x8F]
  | .illegal92 => [0x92]
  | .illegal93 => [0x93]
  | .illegal97 => [0x97]
  | .illegal9B => [0x9B]
  | .illegal9C => [0x9C]
  | .illegal9E => [0x9E]
  | .illegal9F => [0x9F]
  | .illegalA3 => [0xA3]
  | .illegalA7 => [0xA7]
  | .illegalAB => [0xAB]
  | .illegalAF => [0xAF]
  | .illegalB2 => [0xB2]
  | .illegalB3 => [0xB3]
  | .illegalB7 => [0xB7]
  | .illegalBB => [0xBB]
  | .illegalBF => [0xBF]
  | .illegalC2 => [0xC2]
  | .illegalC3 => [0xC3]
  | .illegalC7 => [0xC7]
  | .illegalCB => [0xCB]
  | .illegalCF => [0xCF]
  | .illegalD2 => [0xD2]
  | .illegalD3 => [0xD3]
  | .illegalD4 => [0xD4]
  | .illegalD7 => [0xD7]
  | .illegalDA => [0xDA]
  | .illegalDB => [0xDB]
  | .illegalDC => [0xDC]
  | .illegalDF => [0xDF]
  | .illegalE2 => [0xE2]
  | .illegalE3 => [0xE3]
  | .illegalE7 => [0xE7]
  | .illegalEB => [0xEB]
  | .illegalEF => [0xEF]
  | .illegalF2 => [0xF2]
  | .illegalF3 => [0xF3]
  | .illegalF4 => [0xF4]
  | .illegalF7 => [0xF7]
  | .illegalFA => [0xFA]
  | .illegalFB => [0xFB]
  | .illegalFC => [0xFC]
  | .illegalFF => [0xFF]

/-- Bytes an instruction takes in memory (R51). -/
def Instr.length (i : Instr) : Nat := (encode i).length

/-- The most bytes an instruction takes (R51). -/
def maxLength : Nat := 3

/-- The bytes of a table word: byte `k` of the instruction is bits `8k+7 .. 8k` of `w`, for the `nbits` low bits; every
bit above them is 0.  As many bytes as the longest instruction has. -/
def tableBytes (nbits w : Nat) : List Byte :=
  (List.range maxLength).map fun k => BitVec.ofNat 8 ((w % 2 ^ nbits) / 2 ^ (8 * k))

/-- The instruction the decoder reads from a word numbered as spec/opcode_table.json numbers it. -/
def decodeTableWord (nbits w : Nat) : Option Instr :=
  match decode (tableBytes nbits w) with
  | .ok (i, _) => some i
  | .error _ => none

end Sys2Proof
end

