-- ==== Sys2Proof/Machine/State.lean ====
section
/-! DEFINITION. The state of the machine, the reasons a step can stop, and the state after reset
(spec/10_state.md R10-R22, spec/70_reset_and_hazards.md R190). -/

namespace Sys2Proof.Machine

/-- What `DecodeError` records: the offending byte and the address it was fetched from (R18, R170). -/
structure DecodeError where
  opcode : Byte
  addr : Word
  deriving DecidableEq, Repr

/-- The bytes of RAM that are known, as (index, byte) pairs; `busKey` (Ops) gives an address's index, so that the mirrors
of a RAM byte share one entry (R35).  Canonical form: `Memory.wf`. -/
abbrev Memory := List Host.Cell

/-- What lies behind the bus outside RAM: the parameter `Dev` of R41 (D19; log 36). -/
inductive Dev where
  /-- Any environment: its answers are the free value `Config.devRead` of what it has seen (log 34). -/
  | free
  /-- The fixture `FlatROM(rom)` (R42): `rom` lists bytes of 0x8000-0xFFFF, and every other byte is 0x00 (D19). -/
  | flatRom (rom : List Host.Cell)
  deriving DecidableEq, Repr

/-- What an agent other than the CPU can do between two steps (R17, R19, R45, R190). -/
inductive EnvAction where
  /-- The NMI line is raised: `nmi_pending <- 1`; lost if the latch is set already (R17, R172). -/
  | raiseNmi
  /-- The level of `irq_in`, the OR of all IRQ sources, becomes `level` (R19, R173). -/
  | setIrq (level : Bool)
  /-- The reset input: `reset()` (R190). -/
  | reset
  /-- `ram[index] <- v`: the System driver's memory patch, or another agent's write of RAM (R45). -/
  | patchRam (index : BitVec 11) (v : Byte)
  /-- Any other change of the environment's state `E`, a switch of the cartridge's banks among them (R39, R41, R45). -/
  | outside (k : Nat)
  deriving DecidableEq, Repr

/-- The state of the CPU block (R10), its inputs and outputs, and the memory and environment a step touches. -/
structure State where
  /-- A, the accumulator (R11). -/
  a : Byte
  /-- X, an index register (R11). -/
  x : Byte
  /-- Y, an index register (R11). -/
  y : Byte
  /-- S, the stack pointer: an offset in page 0x01 (R13). -/
  sp : Byte
  /-- PC: between steps, the address of the opcode byte the next instruction step will fetch (R12). -/
  pc : Word
  /-- P, the status byte NV1BDIZC (R14-R16). -/
  p : Byte
  /-- `nmi_pending`, the NMI latch (R17). -/
  nmiPending : Bool
  /-- `fault`, the fault latch (R18). -/
  fault : Option DecodeError
  /-- `irq_in`, an input: the level of the IRQ line (R19). -/
  irqIn : Bool
  /-- An output: the cycle count the last step reported, none after a decode fault or a reset (R200, R160, R192). -/
  cycles : Option Nat
  /-- RAM (R35). -/
  mem : Memory
  /-- The parameter `Dev`: what answers outside RAM (R41, R42; log 36).  No step changes it. -/
  dev : Dev
  /-- The bus port's record (R31): what crossed the boundary of the block, newest event first.  The environment's state
  `E` (R41) is the part of it that `State.history` picks out (log 34); no access to RAM is in that part. -/
  trace : List Event
  /-- The model's own field: what the environment does before each coming step (log 37).  The head's actions land
  before the next step's poll; when the list is empty nothing arrives. -/
  inputs : List (List EnvAction)
  deriving DecidableEq, Repr

/-- Why a step stops. -/
inductive Fault where
  /-- Raised by `step` alone, in a state whose fault latch is set: "while `fault` is not `none` the CPU has no step"
  (R18, R170, R174).  Safe: the spec's machine has no transition here either, until a reset. -/
  | decodeErrorLatched (e : DecodeError)
  deriving DecidableEq, Repr

/-- Why an instruction has no meaning. -/
inductive Refusal where
  /-- Raised by an arm of `exec` whose instruction has no meaning yet.  Safe: the run stops.  No arm does. -/
  | notModelled (mnemonic : String)
  deriving DecidableEq, Repr

/-- The outcome of a meaning or a step. -/
abbrev Result := Host.Outcome State Fault Refusal

/-- The machine right after `reset()` (R190, R21), from power-up: nothing of RAM is known (R35, D31), the
environment is any (R41, log 36) and has seen only the reset itself, its two reads of the reset vector 0xFFFC (R171) and
the credited cycles (R192).  The vector's bytes are the environment's answers.  `irqIn` low and an empty script are the
model's choice (log 38). -/
def State.reset : State :=
  let l := Config.devRead [] 0xFFFC
  let h := Config.devRead [.read 0xFFFC l] 0xFFFD
  { a := 0x00, x := 0x00, y := 0x00, sp := 0xFD, pc := mkWord h l, p := 0x24
    nmiPending := false, fault := none, irqIn := false, cycles := none
    mem := [], dev := .free, trace := [.tick Config.resetCycles, .read 0xFFFD h, .read 0xFFFC l], inputs := [] }

end Sys2Proof.Machine
end

