-- ==== Sys2Proof/Machine/Flags.lean ====
section
/-! DEFINITION. The status byte (spec/10_state.md R14-R16) and every flag computation of the spec: `setZN` (R6),
`add8` (R100), the shifts (R114). -/

namespace Sys2Proof.Machine

/-- The six bits of P that instructions write (R14, R16). -/
inductive Flag where
  | c | z | i | d | v | n
  deriving DecidableEq, Repr

/-- A flag's bit position in P (R14). -/
def Flag.pos : Flag → Nat
  | .c => 0
  | .z => 1
  | .i => 2
  | .d => 3
  | .v => 6
  | .n => 7

/-- Bit 4 of the status byte, B (R14): 1 only in the byte PHP and BRK push. -/
def breakBit : Byte := 0x10

/-- Bit 5 of the status byte, U (R14): always 1. -/
def unusedBit : Byte := 0x20

/-- Flag `f` of the status byte `p` (R16). -/
def getFlag (f : Flag) (p : Byte) : Bool := p.getLsbD f.pos

/-- A flag's value as a byte. -/
def bitByte (b : Bool) : Byte := if b then 1 else 0

/-- `P <- (P & ~(1 << pos(f))) | (b << pos(f))` (R16). -/
def putFlag (f : Flag) (b : Bool) (p : Byte) : Byte := (p &&& ~~~((1 : Byte) <<< f.pos)) ||| (bitByte b <<< f.pos)

/-- `setZN(v)`: `P.Z <- (v == 0); P.N <- v[7]` (R6). -/
def putZN (v : Byte) (p : Byte) : Byte := putFlag .n (v.getLsbD 7) (putFlag .z (v == 0) p)

/-- The status byte PLP and RTI load from the pulled byte: `(m & 0xCF) | 0x20` (R15, R99, R159). -/
def statusFromPulled (m : Byte) : Byte := (m &&& 0xCF) ||| unusedBit

/-- The status byte PHP and BRK push: `P | 0x10` (R15, R97, R158). -/
def statusWithBreak (p : Byte) : Byte := p ||| breakBit

/-- A flag of the machine's P. -/
def State.flag (f : Flag) (s : State) : Bool := getFlag f s.p

/-- Write one flag of P; the other bits stay (R16). -/
def State.setFlag (f : Flag) (b : Bool) (s : State) : State := { s with p := putFlag f b s.p }

/-- `setZN(v)` on the machine's P (R6). -/
def State.setZN (v : Byte) (s : State) : State := { s with p := putZN v s.p }

/-- Load P from a pulled byte (R15). -/
def State.setStatus (m : Byte) (s : State) : State := { s with p := statusFromPulled m }

/-- What an 8-bit operation yields: the result byte, the carry out, and signed overflow. -/
structure AluResult where
  r : Byte
  cout : Bool
  v : Bool
  deriving DecidableEq, Repr

/-- The one adder (R100): the exact sum, its low 8 bits, its bit 8, and `((a ^ r) & (m ^ r) & 0x80) != 0`. -/
def add8 (a m : Byte) (c : Bool) : AluResult :=
  let sum := a.toNat + m.toNat + c.toNat
  let r := BitVec.ofNat 8 sum
  { r := r, cout := decide (256 ≤ sum), v := ((a ^^^ r) &&& (m ^^^ r) &&& 0x80) != 0 }

/-- `a - m - (1 - c)`: the addition of the one's complement (R100). -/
def sub8 (a m : Byte) (c : Bool) : AluResult := add8 a (m ^^^ 0xFF) c

/-- The four shifts and rotates (R114). -/
inductive ShiftOp where
  | asl | lsr | rol | ror
  deriving DecidableEq, Repr

/-- The result of shifting `v` by one position, with `c` the old carry (R114, column `r`). -/
def ShiftOp.result (op : ShiftOp) (v : Byte) (c : Bool) : Byte :=
  match op with
  | .asl => v <<< 1
  | .lsr => v >>> 1
  | .rol => (v <<< 1) ||| bitByte c
  | .ror => (v >>> 1) ||| (bitByte c <<< 7)

/-- The bit shifted out, the new carry (R114, column `cout`). -/
def ShiftOp.carry (op : ShiftOp) (v : Byte) : Bool :=
  match op with
  | .asl | .rol => v.getLsbD 7
  | .lsr | .ror => v.getLsbD 0

end Sys2Proof.Machine
end

