-- ==== Sys2Proof/Machine/Ops.lean ====
section
/-! DEFINITION. The named operations over registers, memory, the bus and the stack (spec/00_scope.md R6,
spec/20_memory.md R30-R48, spec/10_state.md R11-R13); taking an exception and returning from it
(spec/60_exceptions.md R170-R181); reset (R190); the environment's actions and the poll (R174). -/

namespace Sys2Proof.Machine

/-! ### Memory as data -/

/-- What an unlisted RAM byte reads as, the ONE definition: no known value.  The byte is then `ram_init`'s;
`State.busByte` supplies it (R35, log 35). -/
def Memory.unlisted (_ : Nat) : Option Byte := none

/-- The byte listed at key `k`. -/
def Memory.get? : Memory → Nat → Option Byte
  | [], k => Memory.unlisted k
  | (k', v) :: rest, k => if k' = k then some v else Memory.get? rest k

/-- List `v` at key `k`, keeping the keys in order.  No byte equals "no known value", so no write removes an entry. -/
def Memory.set : Memory → Nat → Byte → Memory
  | [], k, v => [(k, v)]
  | (k', v') :: rest, k, v =>
    if k < k' then (k, v) :: (k', v') :: rest
    else if k = k' then (k, v) :: rest
    else (k', v') :: Memory.set rest k v

/-- List consecutive bytes from key `k` on (of RAM, or of a cartridge's `rom`). -/
def Memory.setAll (m : Memory) (k : Nat) : List Byte → Memory
  | [] => m
  | v :: rest => Memory.setAll (m.set k v) (k + 1) rest

/-- The first address outside the RAM window (R34). -/
abbrev ramEnd : Nat := 0x2000

/-- The size of RAM (R35). -/
abbrev ramSize : Nat := 0x0800

/-- Does the address lie in the RAM window 0x0000-0x1FFF (R34)? -/
def inRam (addr : Word) : Bool := decide (addr.toNat < ramEnd)

/-- The key of a bus address: the index of the RAM byte, `a & 0x07FF`, in the RAM window (R35), else the address. -/
def busKey (addr : Word) : Nat := if addr.toNat < ramEnd then addr.toNat % ramSize else addr.toNat

/-- Is `k` the index of a RAM byte (R35)? -/
def isKey (k : Nat) : Bool := decide (k < ramSize)

/-- The canonical form from key `lo` on: keys that are some RAM byte's, strictly rising, no entry equal to what an
unlisted key reads as. -/
def Memory.wfFrom (lo : Nat) : Memory → Bool
  | [] => true
  | (k, v) :: rest =>
    decide (lo ≤ k) && isKey k && decide (Memory.unlisted k ≠ some v) && Memory.wfFrom (k + 1) rest

/-- The canonical form of memory. -/
def Memory.wf (m : Memory) : Bool := Memory.wfFrom 0 m

/-! ### Registers -/

/-- The registers that loads, stores, transfers and compares name (R11, R13). -/
inductive Reg where
  | a | x | y | s
  deriving DecidableEq, Repr

/-- `x[r]` (R6). -/
def State.reg (r : Reg) (s : State) : Byte :=
  match r with
  | .a => s.a
  | .x => s.x
  | .y => s.y
  | .s => s.sp

/-- `x[r] <- v` (R6). -/
def State.setReg (r : Reg) (v : Byte) (s : State) : State :=
  match r with
  | .a => { s with a := v }
  | .x => { s with x := v }
  | .y => { s with y := v }
  | .s => { s with sp := v }

/-! ### The bus -/

/-- `rom(a)`: the byte `rom` lists at `a`, 0x00 where it lists none (R42, D19). -/
def romByte : List Host.Cell → Word → Byte
  | [], _ => 0x00
  | (a, v) :: rest, addr => if a = addr.toNat then v else romByte rest addr

/-- The answer of the environment that its state does not decide: none for a free one; `FlatROM`'s (R42), 0x00 for
0x2000-0x7FFF and `rom(a)` for 0x8000-0xFFFF. -/
def Dev.known (addr : Word) : Dev → Option Byte
  | .free => none
  | .flatRom rom => some (if addr.toNat < 0x8000 then 0x00 else romByte rom addr)

/-- The byte that is known at a bus address, none where a read's answer is a free value: RAM's listed byte (R35), or
what the environment is known to show (R42). -/
def State.cell (addr : Word) (s : State) : Option Byte :=
  if inRam addr then s.mem.get? (busKey addr) else s.dev.known addr

/-- Is it an event the environment takes part in?  A RAM access is none: it "changes nothing else", has "no side effect"
and is not the environment's (R35, R36, R41, R48). -/
def isDevEvent : Event → Bool
  | .read addr _ | .write addr _ => !inRam addr
  | .tick _ | .outside _ => true

/-- The environment's state `E` (R41): what it has seen, newest event first (log 34). -/
def State.history (s : State) : List Event := s.trace.filter isDevEvent

/-- The byte a bus read of `addr` returns now (R33): the known byte, else `ram_init`'s byte in RAM (R35), else the
environment's answer (R37-R39, R41). -/
def State.busByte (addr : Word) (s : State) : Byte :=
  match s.cell addr with
  | some v => v
  | none => if inRam addr then Config.ramInit (busKey addr) else Config.devRead s.history addr

/-- An event crosses the boundary of the block (R31); the environment takes part in it if it is one of its own. -/
def State.note (e : Event) (s : State) : State := { s with trace := e :: s.trace }

/-- `MemRead(addr, 1)`: the byte, and the state after the transaction, which may have changed the environment
outside RAM and changes nothing else (R6, R31, R33, R35). -/
def State.memRead (addr : Word) (s : State) : Byte × State :=
  (s.busByte addr, s.note (.read addr (s.busByte addr)))

/-- `MemWrite(addr, 1, v)` (R6, R31, R33): in the RAM window it sets the RAM byte (R35); elsewhere it is the
environment's (R37-R39), and `FlatROM` ignores it (R42). -/
def State.memWrite (addr : Word) (v : Byte) (s : State) : State :=
  { s.note (.write addr v) with mem := if inRam addr then s.mem.set (busKey addr) v else s.mem }

/-- Two bytes at `lo` and `hi`, low byte read first (R43): the word and the state after both reads. -/
def State.readPair (lo hi : Word) (s : State) : Word × State :=
  let l := s.memRead lo
  let h := l.2.memRead hi
  (mkWord h.1 l.1, h.2)

/-! ### The stack -/

/-- The address of the stack slot S names, `0x0100 | S` (R13). -/
def stackAddr (sp : Byte) : Word := mkWord 0x01 sp

/-- `push(v)`: `MemWrite(0x0100 | S, 1, v); S <- (S - 1) mod 256` (R13). -/
def State.push (v : Byte) (s : State) : State := { s.memWrite (stackAddr s.sp) v with sp := s.sp - 1 }

/-- `pull()`: `S <- (S + 1) mod 256; MemRead(0x0100 | S, 1)` (R13). -/
def State.pull (s : State) : Byte × State := ({ s with sp := s.sp + 1 } : State).memRead (stackAddr (s.sp + 1))

/-- Push a 16-bit return address, high byte first (R43). -/
def State.pushWord (w : Word) (s : State) : State := (s.push (hiByte w)).push (loByte w)

/-- Pull a 16-bit address, low byte first (R132, R159). -/
def State.pullWord (s : State) : Word × State :=
  let l := s.pull
  let h := l.2.pull
  (mkWord h.1 l.1, h.2)

/-! ### The end of a step -/

/-- `cycles <- n`: the step reports its count, and the environment is advanced by it (R200, D19). -/
def State.report (n : Nat) (s : State) : State := { s.note (.tick n) with cycles := some n }

/-- The end of an instruction that is no control transfer: `PC <- (PC + length) mod 65536` (R12, R52). -/
def State.retire (length n : Nat) (s : State) : State :=
  ({ s with pc := s.pc + BitVec.ofNat 16 length } : State).report n

/-- The end of a control transfer: `pc <- target` (R6). -/
def State.jumpTo (target : Word) (n : Nat) (s : State) : State := ({ s with pc := target } : State).report n

/-! ### Exceptions -/

/-- The NMI vector (R171). -/
def nmiVector : Word := 0xFFFA

/-- The RESET vector (R171). -/
def resetVector : Word := 0xFFFC

/-- The vector IRQ and BRK share (R171). -/
def irqVector : Word := 0xFFFE

/-- Cycles of every interrupt entry and of BRK (R178, R201). -/
def entryCycles : Nat := 7

/-- Taking an exception, the one operation NMI, IRQ and BRK share (R176, R178): push the return address, high byte
first, push the status byte, set I, and continue at the address in the vector. -/
def State.takeException (ret : Word) (status : Byte) (vec : Word) (s : State) : State :=
  let t := (((s.pushWord ret).push status).setFlag .i true).readPair vec (vec + 1)
  t.2.jumpTo t.1 entryCycles

/-- `interrupt_entry(vec)`: the pushed PC is the instruction that would have been fetched, the pushed status is P
itself (R176). -/
def State.interruptEntry (vec : Word) (s : State) : State := s.takeException s.pc s.p vec

/-- NMI entry: clear the latch, then enter (R174, R175). -/
def State.enterNmi (s : State) : State := ({ s with nmiPending := false } : State).interruptEntry nmiVector

/-- IRQ entry; the level is not changed (R177). -/
def State.enterIrq (s : State) : State := s.interruptEntry irqVector

/-- Return from interrupt: pull P, then PC low, then PC high, and continue exactly there (R159, R181). -/
def State.returnFromException (n : Nat) (s : State) : State :=
  let m := s.pull
  let w := (m.2.setStatus m.1).pullWord
  w.2.jumpTo w.1 n

/-- `raise DecodeError(opcode, PC)`: the latch records the byte and its address, no count is reported, nothing else
changes (R160, R170). -/
def State.raiseDecodeError (opcode : Byte) (s : State) : State :=
  { s with fault := some ⟨opcode, s.pc⟩, cycles := none }

/-! ### Reset -/

/-- `reset()` (R190): every register, the NMI latch and the fault latch, and PC from the reset vector by two bus reads.
Memory and the IRQ level are not touched; no count is reported (R192), and the environment is credited
`RESET_CYCLES`. -/
def State.doReset (s : State) : State :=
  let v := s.readPair resetVector (resetVector + 1)
  { v.2.note (.tick Config.resetCycles) with
    a := 0x00, x := 0x00, y := 0x00, sp := 0xFD, p := 0x24
    nmiPending := false, fault := none, pc := v.1, cycles := none }

/-! ### The environment between two steps, and the poll -/

/-- One action of the environment (R17, R19, R45, R190). -/
def State.act (e : EnvAction) (s : State) : State :=
  match e with
  | .raiseNmi => { s with nmiPending := true }
  | .setIrq level => { s with irqIn := level }
  | .reset => s.doReset
  | .patchRam index v => { s with mem := s.mem.set index.toNat v }
  | .outside k => s.note (.outside k)

/-- A list of actions, in order. -/
def State.actAll : List EnvAction → State → State
  | [], s => s
  | e :: rest, s => State.actAll rest (s.act e)

/-- What lands before the coming step: the head of the script, which is consumed (log 37). -/
def State.applyInputs (s : State) : State :=
  match s.inputs with
  | [] => s
  | now :: later => State.actAll now { s with inputs := later }

/-- What a step turns out to be (R174). -/
inductive Poll where
  /-- A latched fault: no step at all. -/
  | stuck (e : DecodeError)
  | nmi
  | irq
  | instruction
  deriving DecidableEq, Repr

/-- The poll before the fetch, in the order of R174 and R179: fault, NMI, IRQ if `P.I = 0`, the instruction. -/
def State.poll (s : State) : Poll :=
  match s.fault with
  | some e => .stuck e
  | none => if s.nmiPending then .nmi else if s.irqIn && !s.flag .i then .irq else .instruction

/-- Fetch (R52): the opcode byte, then the operand bytes its matrix cell needs, in ascending address order; PC still
names the opcode (log 41). -/
def State.fetch (s : State) : Instr × State :=
  let op := s.memRead s.pc
  match opcodeEntry op.1 with
  | .one i => (i, op.2)
  | .two f =>
    let b1 := op.2.memRead (s.pc + 1)
    (f b1.1, b1.2)
  | .three f =>
    let w := op.2.readPair (s.pc + 1) (s.pc + 2)
    (f w.1, w.2)

end Sys2Proof.Machine
end

