-- ==== Sys2Proof/Machine/Operands.lean ====
section
/-! DEFINITION. The operand formats (spec/30_encoding.md R53-R65).  IMP (R53) has no operand; ACC (R54) is register A,
read and written by the shifts themselves.  The others are here. -/

namespace Sys2Proof.Machine

/-- `zext_16(b)` (R5). -/
def zext16 (b : Byte) : Word := b.setWidth 16

/-- `sext_16(b)` (R5). -/
def sext16 (b : Byte) : Word := b.signExtend 16

/-- `page(w) = w[15:8]` (R5). -/
def pageOf (w : Word) : Byte := hiByte w

/-- The formats that yield an effective address for data, with their operand bytes (R56-R61, R63, R64). -/
inductive Mode where
  | zp (b : Byte)
  | zpx (b : Byte)
  | zpy (b : Byte)
  | abs (w : Word)
  | absx (w : Word)
  | absy (w : Word)
  | indx (b : Byte)
  | indy (b : Byte)
  deriving DecidableEq, Repr

/-- Where a value `M` comes from: the immediate byte (R55), or a read at the effective address (R69). -/
inductive Source where
  | imm (b : Byte)
  | mem (m : Mode)
  deriving DecidableEq, Repr

/-- Bytes of the instruction (R51). -/
def Mode.length : Mode → Nat
  | .abs _ | .absx _ | .absy _ => 3
  | .zp _ | .zpx _ | .zpy _ | .indx _ | .indy _ => 2

/-- Bytes of the instruction (R51). -/
def Source.length : Source → Nat
  | .imm _ => 2
  | .mem m => m.length

/-- An effective address, whether indexing crossed a page, and the state after the pointer reads. -/
structure Located where
  ea : Word
  crossed : Bool
  st : State
  deriving DecidableEq, Repr

/-- `ea <- (base + index) mod 65536; crossed <- (page(ea) != page(base))` (R60, R61, R64). -/
def Located.indexed (base : Word) (index : Byte) (st : State) : Located :=
  { ea := base + zext16 index, crossed := pageOf (base + zext16 index) != pageOf base, st := st }

/-- The pointer at zero-page address `p`, its second byte at `(p + 1) mod 256` (R63, R64). -/
def State.zpPointer (p : Byte) (s : State) : Word × State := s.readPair (zext16 p) (zext16 (p + 1))

/-- The effective address of each format (R56-R61, R63, R64). -/
def State.locate (m : Mode) (s : State) : Located :=
  match m with
  | .zp b => { ea := zext16 b, crossed := false, st := s }
  | .zpx b => { ea := zext16 (b + s.x), crossed := false, st := s }
  | .zpy b => { ea := zext16 (b + s.y), crossed := false, st := s }
  | .abs w => { ea := w, crossed := false, st := s }
  | .absx w => Located.indexed w s.x s
  | .absy w => Located.indexed w s.y s
  | .indx b => { ea := (s.zpPointer (b + s.x)).1, crossed := false, st := (s.zpPointer (b + s.x)).2 }
  | .indy b => Located.indexed (s.zpPointer b).1 s.y (s.zpPointer b).2

/-- A value `M`, whether indexing crossed a page, and the state after the reads. -/
structure Operand where
  val : Byte
  crossed : Bool
  st : State
  deriving DecidableEq, Repr

/-- `M <- (IMM: b1 | otherwise: MemRead(ea, 1))` (R55, R69 class "read"). -/
def State.operand (src : Source) (s : State) : Operand :=
  match src with
  | .imm b => { val := b, crossed := false, st := s }
  | .mem m =>
    let l := s.locate m
    { val := (l.st.memRead l.ea).1, crossed := l.crossed, st := (l.st.memRead l.ea).2 }

/-- The page-crossing penalty of an indexed read (R68). -/
def penalty (crossed : Bool) : Nat := if crossed then 1 else 0

/-- IND (R62): the second byte of the pointer is read without a carry into the pointer's page. -/
def State.indirect (ptr : Word) (s : State) : Word × State :=
  s.readPair ptr ((ptr &&& 0xFF00) ||| ((ptr + 1) &&& 0x00FF))

/-- REL (R65): the target, relative to the address of the instruction that follows the branch. -/
def relTarget (next : Word) (b : Byte) : Word := next + sext16 b

end Sys2Proof.Machine
end

