-- ==== Sys2Proof/Machine/Arithmetic.lean ====
section
/-! DEFINITION. Meanings: arithmetic and compare (spec/42_arithmetic.md R100-R106). -/

namespace Sys2Proof.Machine

/-- ADC and SBC (R101, R102): `f` is the adder or the subtracter, C is its carry in; D is not read. -/
def State.arith (f : Byte → Byte → Bool → AluResult) (src : Source) (n : Nat) (s : State) : State :=
  let o := s.operand src
  let r := f o.st.a o.val (o.st.flag .c)
  ((((o.st.setFlag .c r.cout).setFlag .v r.v).setReg .a r.r).setZN r.r).retire src.length (n + penalty o.crossed)

/-- `compare(R, M)` (R103): C, Z, N of `R - M`; V and the incoming C are not used, the difference is discarded. -/
def State.compare (r : Reg) (src : Source) (n : Nat) (s : State) : State :=
  let o := s.operand src
  let d := sub8 (o.st.reg r) o.val true
  ((o.st.setFlag .c d.cout).setZN d.r).retire src.length (n + penalty o.crossed)

/-! ADC: add memory to accumulator with carry (R101). -/

def execAdcImm (imm : Byte) (s : State) : Result := .next (s.arith add8 (.imm imm) 2)
def execAdcZp (zp : Byte) (s : State) : Result := .next (s.arith add8 (.mem (.zp zp)) 3)
def execAdcZpx (zp : Byte) (s : State) : Result := .next (s.arith add8 (.mem (.zpx zp)) 4)
def execAdcAbs (addr : Word) (s : State) : Result := .next (s.arith add8 (.mem (.abs addr)) 4)
def execAdcAbsx (addr : Word) (s : State) : Result := .next (s.arith add8 (.mem (.absx addr)) 4)
def execAdcAbsy (addr : Word) (s : State) : Result := .next (s.arith add8 (.mem (.absy addr)) 4)
def execAdcIndx (zp : Byte) (s : State) : Result := .next (s.arith add8 (.mem (.indx zp)) 6)
def execAdcIndy (zp : Byte) (s : State) : Result := .next (s.arith add8 (.mem (.indy zp)) 5)

/-! SBC: subtract memory from accumulator with borrow (R102). -/

def execSbcImm (imm : Byte) (s : State) : Result := .next (s.arith sub8 (.imm imm) 2)
def execSbcZp (zp : Byte) (s : State) : Result := .next (s.arith sub8 (.mem (.zp zp)) 3)
def execSbcZpx (zp : Byte) (s : State) : Result := .next (s.arith sub8 (.mem (.zpx zp)) 4)
def execSbcAbs (addr : Word) (s : State) : Result := .next (s.arith sub8 (.mem (.abs addr)) 4)
def execSbcAbsx (addr : Word) (s : State) : Result := .next (s.arith sub8 (.mem (.absx addr)) 4)
def execSbcAbsy (addr : Word) (s : State) : Result := .next (s.arith sub8 (.mem (.absy addr)) 4)
def execSbcIndx (zp : Byte) (s : State) : Result := .next (s.arith sub8 (.mem (.indx zp)) 6)
def execSbcIndy (zp : Byte) (s : State) : Result := .next (s.arith sub8 (.mem (.indy zp)) 5)

/-! CMP: compare memory with accumulator (R104). -/

def execCmpImm (imm : Byte) (s : State) : Result := .next (s.compare .a (.imm imm) 2)
def execCmpZp (zp : Byte) (s : State) : Result := .next (s.compare .a (.mem (.zp zp)) 3)
def execCmpZpx (zp : Byte) (s : State) : Result := .next (s.compare .a (.mem (.zpx zp)) 4)
def execCmpAbs (addr : Word) (s : State) : Result := .next (s.compare .a (.mem (.abs addr)) 4)
def execCmpAbsx (addr : Word) (s : State) : Result := .next (s.compare .a (.mem (.absx addr)) 4)
def execCmpAbsy (addr : Word) (s : State) : Result := .next (s.compare .a (.mem (.absy addr)) 4)
def execCmpIndx (zp : Byte) (s : State) : Result := .next (s.compare .a (.mem (.indx zp)) 6)
def execCmpIndy (zp : Byte) (s : State) : Result := .next (s.compare .a (.mem (.indy zp)) 5)

/-! CPX: compare memory with X (R105). -/

def execCpxImm (imm : Byte) (s : State) : Result := .next (s.compare .x (.imm imm) 2)
def execCpxZp (zp : Byte) (s : State) : Result := .next (s.compare .x (.mem (.zp zp)) 3)
def execCpxAbs (addr : Word) (s : State) : Result := .next (s.compare .x (.mem (.abs addr)) 4)

/-! CPY: compare memory with Y (R106). -/

def execCpyImm (imm : Byte) (s : State) : Result := .next (s.compare .y (.imm imm) 2)
def execCpyZp (zp : Byte) (s : State) : Result := .next (s.compare .y (.mem (.zp zp)) 3)
def execCpyAbs (addr : Word) (s : State) : Result := .next (s.compare .y (.mem (.abs addr)) 4)

end Sys2Proof.Machine
end

