-- ==== Sys2Proof/Machine/Control.lean ====
section
/-! DEFINITION. Meanings: control transfer (spec/45_control.md R130-R141). -/

namespace Sys2Proof.Machine

/-- A conditional branch (R133): taken if flag `f` has the value `want`.  3 cycles taken, 4 to another page than that
of the next instruction, 2 not taken. -/
def State.branch (f : Flag) (want : Bool) (b : Byte) (s : State) : State :=
  let next := s.pc + 2
  let target := relTarget next b
  if s.flag f = want then s.jumpTo target (3 + penalty (pageOf target != pageOf next)) else s.jumpTo next 2

/-! JMP: jump (R130). -/

def execJmpAbs (addr : Word) (s : State) : Result := .next (s.jumpTo addr 3)
def execJmpInd (ptr : Word) (s : State) : Result := .next ((s.indirect ptr).2.jumpTo (s.indirect ptr).1 5)

/-! JSR: jump to subroutine: both operand bytes are read by the fetch, then the address of the last byte is pushed (R131). -/

def execJsr (addr : Word) (s : State) : Result := .next ((s.pushWord (s.pc + 2)).jumpTo addr 6)

/-! RTS: return from subroutine: the pulled address plus 1 (R132). -/

def execRts (s : State) : Result := .next (s.pullWord.2.jumpTo (s.pullWord.1 + 1) 6)

/-! BPL: branch if plus (R134, R133). -/

def execBpl (rel : Byte) (s : State) : Result := .next (s.branch .n false rel)

/-! BMI: branch if minus (R135, R133). -/

def execBmi (rel : Byte) (s : State) : Result := .next (s.branch .n true rel)

/-! BVC: branch if overflow clear (R136, R133). -/

def execBvc (rel : Byte) (s : State) : Result := .next (s.branch .v false rel)

/-! BVS: branch if overflow set (R137, R133). -/

def execBvs (rel : Byte) (s : State) : Result := .next (s.branch .v true rel)

/-! BCC: branch if carry clear (R138, R133). -/

def execBcc (rel : Byte) (s : State) : Result := .next (s.branch .c false rel)

/-! BCS: branch if carry set (R139, R133). -/

def execBcs (rel : Byte) (s : State) : Result := .next (s.branch .c true rel)

/-! BNE: branch if not equal (R140, R133). -/

def execBne (rel : Byte) (s : State) : Result := .next (s.branch .z false rel)

/-! BEQ: branch if equal (R141, R133). -/

def execBeq (rel : Byte) (s : State) : Result := .next (s.branch .z true rel)

end Sys2Proof.Machine
end

