-- ==== Sys2Proof/Machine/Illegal.lean ====
section
/-! DEFINITION. Meanings: the 105 unassigned opcode bytes (spec/47_illegal.md R160, R161).  Each raises `DecodeError` with its own
byte; none acts as a no-operation, a halt, or an assigned instruction. -/

namespace Sys2Proof.Machine

def execIllegal02 (s : State) : Result := .next (s.raiseDecodeError 0x02)
def execIllegal03 (s : State) : Result := .next (s.raiseDecodeError 0x03)
def execIllegal04 (s : State) : Result := .next (s.raiseDecodeError 0x04)
def execIllegal07 (s : State) : Result := .next (s.raiseDecodeError 0x07)
def execIllegal0B (s : State) : Result := .next (s.raiseDecodeError 0x0B)
def execIllegal0C (s : State) : Result := .next (s.raiseDecodeError 0x0C)
def execIllegal0F (s : State) : Result := .next (s.raiseDecodeError 0x0F)
def execIllegal12 (s : State) : Result := .next (s.raiseDecodeError 0x12)
def execIllegal13 (s : State) : Result := .next (s.raiseDecodeError 0x13)
def execIllegal14 (s : State) : Result := .next (s.raiseDecodeError 0x14)
def execIllegal17 (s : State) : Result := .next (s.raiseDecodeError 0x17)
def execIllegal1A (s : State) : Result := .next (s.raiseDecodeError 0x1A)
def execIllegal1B (s : State) : Result := .next (s.raiseDecodeError 0x1B)
def execIllegal1C (s : State) : Result := .next (s.raiseDecodeError 0x1C)
def execIllegal1F (s : State) : Result := .next (s.raiseDecodeError 0x1F)
def execIllegal22 (s : State) : Result := .next (s.raiseDecodeError 0x22)
def execIllegal23 (s : State) : Result := .next (s.raiseDecodeError 0x23)
def execIllegal27 (s : State) : Result := .next (s.raiseDecodeError 0x27)
def execIllegal2B (s : State) : Result := .next (s.raiseDecodeError 0x2B)
def execIllegal2F (s : State) : Result := .next (s.raiseDecodeError 0x2F)
def execIllegal32 (s : State) : Result := .next (s.raiseDecodeError 0x32)
def execIllegal33 (s : State) : Result := .next (s.raiseDecodeError 0x33)
def execIllegal34 (s : State) : Result := .next (s.raiseDecodeError 0x34)
def execIllegal37 (s : State) : Result := .next (s.raiseDecodeError 0x37)
def execIllegal3A (s : State) : Result := .next (s.raiseDecodeError 0x3A)
def execIllegal3B (s : State) : Result := .next (s.raiseDecodeError 0x3B)
def execIllegal3C (s : State) : Result := .next (s.raiseDecodeError 0x3C)
def execIllegal3F (s : State) : Result := .next (s.raiseDecodeError 0x3F)
def execIllegal42 (s : State) : Result := .next (s.raiseDecodeError 0x42)
def execIllegal43 (s : State) : Result := .next (s.raiseDecodeError 0x43)
def execIllegal44 (s : State) : Result := .next (s.raiseDecodeError 0x44)
def execIllegal47 (s : State) : Result := .next (s.raiseDecodeError 0x47)
def execIllegal4B (s : State) : Result := .next (s.raiseDecodeError 0x4B)
def execIllegal4F (s : State) : Result := .next (s.raiseDecodeError 0x4F)
def execIllegal52 (s : State) : Result := .next (s.raiseDecodeError 0x52)
def execIllegal53 (s : State) : Result := .next (s.raiseDecodeError 0x53)
def execIllegal54 (s : State) : Result := .next (s.raiseDecodeError 0x54)
def execIllegal57 (s : State) : Result := .next (s.raiseDecodeError 0x57)
def execIllegal5A (s : State) : Result := .next (s.raiseDecodeError 0x5A)
def execIllegal5B (s : State) : Result := .next (s.raiseDecodeError 0x5B)
def execIllegal5C (s : State) : Result := .next (s.raiseDecodeError 0x5C)
def execIllegal5F (s : State) : Result := .next (s.raiseDecodeError 0x5F)
def execIllegal62 (s : State) : Result := .next (s.raiseDecodeError 0x62)
def execIllegal63 (s : State) : Result := .next (s.raiseDecodeError 0x63)
def execIllegal64 (s : State) : Result := .next (s.raiseDecodeError 0x64)
def execIllegal67 (s : State) : Result := .next (s.raiseDecodeError 0x67)
def execIllegal6B (s : State) : Result := .next (s.raiseDecodeError 0x6B)
def execIllegal6F (s : State) : Result := .next (s.raiseDecodeError 0x6F)
def execIllegal72 (s : State) : Result := .next (s.raiseDecodeError 0x72)
def execIllegal73 (s : State) : Result := .next (s.raiseDecodeError 0x73)
def execIllegal74 (s : State) : Result := .next (s.raiseDecodeError 0x74)
def execIllegal77 (s : State) : Result := .next (s.raiseDecodeError 0x77)
def execIllegal7A (s : State) : Result := .next (s.raiseDecodeError 0x7A)
def execIllegal7B (s : State) : Result := .next (s.raiseDecodeError 0x7B)
def execIllegal7C (s : State) : Result := .next (s.raiseDecodeError 0x7C)
def execIllegal7F (s : State) : Result := .next (s.raiseDecodeError 0x7F)
def execIllegal80 (s : State) : Result := .next (s.raiseDecodeError 0x80)
def execIllegal82 (s : State) : Result := .next (s.raiseDecodeError 0x82)
def execIllegal83 (s : State) : Result := .next (s.raiseDecodeError 0x83)
def execIllegal87 (s : State) : Result := .next (s.raiseDecodeError 0x87)
def execIllegal89 (s : State) : Result := .next (s.raiseDecodeError 0x89)
def execIllegal8B (s : State) : Result := .next (s.raiseDecodeError 0x8B)
def execIllegal8F (s : State) : Result := .next (s.raiseDecodeError 0x8F)
def execIllegal92 (s : State) : Result := .next (s.raiseDecodeError 0x92)
def execIllegal93 (s : State) : Result := .next (s.raiseDecodeError 0x93)
def execIllegal97 (s : State) : Result := .next (s.raiseDecodeError 0x97)
def execIllegal9B (s : State) : Result := .next (s.raiseDecodeError 0x9B)
def execIllegal9C (s : State) : Result := .next (s.raiseDecodeError 0x9C)
def execIllegal9E (s : State) : Result := .next (s.raiseDecodeError 0x9E)
def execIllegal9F (s : State) : Result := .next (s.raiseDecodeError 0x9F)
def execIllegalA3 (s : State) : Result := .next (s.raiseDecodeError 0xA3)
def execIllegalA7 (s : State) : Result := .next (s.raiseDecodeError 0xA7)
def execIllegalAB (s : State) : Result := .next (s.raiseDecodeError 0xAB)
def execIllegalAF (s : State) : Result := .next (s.raiseDecodeError 0xAF)
def execIllegalB2 (s : State) : Result := .next (s.raiseDecodeError 0xB2)
def execIllegalB3 (s : State) : Result := .next (s.raiseDecodeError 0xB3)
def execIllegalB7 (s : State) : Result := .next (s.raiseDecodeError 0xB7)
def execIllegalBB (s : State) : Result := .next (s.raiseDecodeError 0xBB)
def execIllegalBF (s : State) : Result := .next (s.raiseDecodeError 0xBF)
def execIllegalC2 (s : State) : Result := .next (s.raiseDecodeError 0xC2)
def execIllegalC3 (s : State) : Result := .next (s.raiseDecodeError 0xC3)
def execIllegalC7 (s : State) : Result := .next (s.raiseDecodeError 0xC7)
def execIllegalCB (s : State) : Result := .next (s.raiseDecodeError 0xCB)
def execIllegalCF (s : State) : Result := .next (s.raiseDecodeError 0xCF)
def execIllegalD2 (s : State) : Result := .next (s.raiseDecodeError 0xD2)
def execIllegalD3 (s : State) : Result := .next (s.raiseDecodeError 0xD3)
def execIllegalD4 (s : State) : Result := .next (s.raiseDecodeError 0xD4)
def execIllegalD7 (s : State) : Result := .next (s.raiseDecodeError 0xD7)
def execIllegalDA (s : State) : Result := .next (s.raiseDecodeError 0xDA)
def execIllegalDB (s : State) : Result := .next (s.raiseDecodeError 0xDB)
def execIllegalDC (s : State) : Result := .next (s.raiseDecodeError 0xDC)
def execIllegalDF (s : State) : Result := .next (s.raiseDecodeError 0xDF)
def execIllegalE2 (s : State) : Result := .next (s.raiseDecodeError 0xE2)
def execIllegalE3 (s : State) : Result := .next (s.raiseDecodeError 0xE3)
def execIllegalE7 (s : State) : Result := .next (s.raiseDecodeError 0xE7)
def execIllegalEB (s : State) : Result := .next (s.raiseDecodeError 0xEB)
def execIllegalEF (s : State) : Result := .next (s.raiseDecodeError 0xEF)
def execIllegalF2 (s : State) : Result := .next (s.raiseDecodeError 0xF2)
def execIllegalF3 (s : State) : Result := .next (s.raiseDecodeError 0xF3)
def execIllegalF4 (s : State) : Result := .next (s.raiseDecodeError 0xF4)
def execIllegalF7 (s : State) : Result := .next (s.raiseDecodeError 0xF7)
def execIllegalFA (s : State) : Result := .next (s.raiseDecodeError 0xFA)
def execIllegalFB (s : State) : Result := .next (s.raiseDecodeError 0xFB)
def execIllegalFC (s : State) : Result := .next (s.raiseDecodeError 0xFC)
def execIllegalFF (s : State) : Result := .next (s.raiseDecodeError 0xFF)

end Sys2Proof.Machine
end

