-- ==== Sys2Proof/Machine/IncDec.lean ====
section
/-! DEFINITION. Meanings: increment and decrement (spec/44_incdec.md R120-R125). -/

namespace Sys2Proof.Machine

/-- INC and DEC (R120, R121): add `d`, which is 1 or -1 modulo 256, to the byte at the effective address; one read and
one write; C and V are not touched (R100). -/
def State.incMem (d : Byte) (m : Mode) (n : Nat) (s : State) : State :=
  let l := s.locate m
  let v := l.st.memRead l.ea
  ((v.2.setZN (v.1 + d)).memWrite l.ea (v.1 + d)).retire m.length n

/-- INX, INY, DEX, DEY (R122-R125): add `d`, which is 1 or -1 modulo 256, to the register. -/
def State.incReg (d : Byte) (r : Reg) (n : Nat) (s : State) : State :=
  ((s.setReg r (s.reg r + d)).setZN (s.reg r + d)).retire 1 n

/-! INC: increment memory (R120). -/

def execIncZp (zp : Byte) (s : State) : Result := .next (s.incMem 1 (.zp zp) 5)
def execIncZpx (zp : Byte) (s : State) : Result := .next (s.incMem 1 (.zpx zp) 6)
def execIncAbs (addr : Word) (s : State) : Result := .next (s.incMem 1 (.abs addr) 6)
def execIncAbsx (addr : Word) (s : State) : Result := .next (s.incMem 1 (.absx addr) 7)

/-! DEC: decrement memory (R121). -/

def execDecZp (zp : Byte) (s : State) : Result := .next (s.incMem 0xFF (.zp zp) 5)
def execDecZpx (zp : Byte) (s : State) : Result := .next (s.incMem 0xFF (.zpx zp) 6)
def execDecAbs (addr : Word) (s : State) : Result := .next (s.incMem 0xFF (.abs addr) 6)
def execDecAbsx (addr : Word) (s : State) : Result := .next (s.incMem 0xFF (.absx addr) 7)

/-! INX: increment X (R122). -/

def execInx (s : State) : Result := .next (s.incReg 1 .x 2)

/-! INY: increment Y (R123). -/

def execIny (s : State) : Result := .next (s.incReg 1 .y 2)

/-! DEX: decrement X (R124). -/

def execDex (s : State) : Result := .next (s.incReg 0xFF .x 2)

/-! DEY: decrement Y (R125). -/

def execDey (s : State) : Result := .next (s.incReg 0xFF .y 2)

end Sys2Proof.Machine
end

