-- ==== Sys2Proof/Machine/LoadStore.lean ====
section
/-! DEFINITION. Meanings: loads and stores (spec/40_load_store.md R80-R85). -/

namespace Sys2Proof.Machine

/-- A load (R80-R82): `M` into the register, `setZN(M)`; +1 cycle for an indexed read that crosses a page (R68). -/
def State.load (r : Reg) (src : Source) (n : Nat) (s : State) : State :=
  let o := s.operand src
  ((o.st.setReg r o.val).setZN o.val).retire src.length (n + penalty o.crossed)

/-- A store (R83-R85): one write of the register at the effective address, which is not read first; a fixed count. -/
def State.store (r : Reg) (m : Mode) (n : Nat) (s : State) : State :=
  let l := s.locate m
  (l.st.memWrite l.ea (l.st.reg r)).retire m.length n

/-! LDA: load accumulator (R80). -/

def execLdaImm (imm : Byte) (s : State) : Result := .next (s.load .a (.imm imm) 2)
def execLdaZp (zp : Byte) (s : State) : Result := .next (s.load .a (.mem (.zp zp)) 3)
def execLdaZpx (zp : Byte) (s : State) : Result := .next (s.load .a (.mem (.zpx zp)) 4)
def execLdaAbs (addr : Word) (s : State) : Result := .next (s.load .a (.mem (.abs addr)) 4)
def execLdaAbsx (addr : Word) (s : State) : Result := .next (s.load .a (.mem (.absx addr)) 4)
def execLdaAbsy (addr : Word) (s : State) : Result := .next (s.load .a (.mem (.absy addr)) 4)
def execLdaIndx (zp : Byte) (s : State) : Result := .next (s.load .a (.mem (.indx zp)) 6)
def execLdaIndy (zp : Byte) (s : State) : Result := .next (s.load .a (.mem (.indy zp)) 5)

/-! LDX: load index X (R81). -/

def execLdxImm (imm : Byte) (s : State) : Result := .next (s.load .x (.imm imm) 2)
def execLdxZp (zp : Byte) (s : State) : Result := .next (s.load .x (.mem (.zp zp)) 3)
def execLdxZpy (zp : Byte) (s : State) : Result := .next (s.load .x (.mem (.zpy zp)) 4)
def execLdxAbs (addr : Word) (s : State) : Result := .next (s.load .x (.mem (.abs addr)) 4)
def execLdxAbsy (addr : Word) (s : State) : Result := .next (s.load .x (.mem (.absy addr)) 4)

/-! LDY: load index Y (R82). -/

def execLdyImm (imm : Byte) (s : State) : Result := .next (s.load .y (.imm imm) 2)
def execLdyZp (zp : Byte) (s : State) : Result := .next (s.load .y (.mem (.zp zp)) 3)
def execLdyZpx (zp : Byte) (s : State) : Result := .next (s.load .y (.mem (.zpx zp)) 4)
def execLdyAbs (addr : Word) (s : State) : Result := .next (s.load .y (.mem (.abs addr)) 4)
def execLdyAbsx (addr : Word) (s : State) : Result := .next (s.load .y (.mem (.absx addr)) 4)

/-! STA: store accumulator (R83). -/

def execStaZp (zp : Byte) (s : State) : Result := .next (s.store .a (.zp zp) 3)
def execStaZpx (zp : Byte) (s : State) : Result := .next (s.store .a (.zpx zp) 4)
def execStaAbs (addr : Word) (s : State) : Result := .next (s.store .a (.abs addr) 4)
def execStaAbsx (addr : Word) (s : State) : Result := .next (s.store .a (.absx addr) 5)
def execStaAbsy (addr : Word) (s : State) : Result := .next (s.store .a (.absy addr) 5)
def execStaIndx (zp : Byte) (s : State) : Result := .next (s.store .a (.indx zp) 6)
def execStaIndy (zp : Byte) (s : State) : Result := .next (s.store .a (.indy zp) 6)

/-! STX: store index X (R84). -/

def execStxZp (zp : Byte) (s : State) : Result := .next (s.store .x (.zp zp) 3)
def execStxZpy (zp : Byte) (s : State) : Result := .next (s.store .x (.zpy zp) 4)
def execStxAbs (addr : Word) (s : State) : Result := .next (s.store .x (.abs addr) 4)

/-! STY: store index Y (R85). -/

def execStyZp (zp : Byte) (s : State) : Result := .next (s.store .y (.zp zp) 3)
def execStyZpx (zp : Byte) (s : State) : Result := .next (s.store .y (.zpx zp) 4)
def execStyAbs (addr : Word) (s : State) : Result := .next (s.store .y (.abs addr) 4)

end Sys2Proof.Machine
end

