-- ==== Sys2Proof/Machine/LogicShift.lean ====
section
/-! DEFINITION. Meanings: logic, bit test, shifts and rotates (spec/43_logic_shift.md R110-R118). -/

namespace Sys2Proof.Machine

/-- AND, ORA, EOR (R110-R112): `A <- f(A, M)`, `setZN(A)`. -/
def State.logic (f : Byte → Byte → Byte) (src : Source) (n : Nat) (s : State) : State :=
  let o := s.operand src
  ((o.st.setReg .a (f o.st.a o.val)).setZN (f o.st.a o.val)).retire src.length (n + penalty o.crossed)

/-- BIT (R113): Z from `A & M`; N and V are bits 7 and 6 of `M`. -/
def State.bitTest (src : Source) (n : Nat) (s : State) : State :=
  let o := s.operand src
  (((o.st.setFlag .z ((o.st.a &&& o.val) == 0)).setFlag .n (o.val.getLsbD 7)).setFlag .v (o.val.getLsbD 6)).retire
    src.length (n + penalty o.crossed)

/-- A shift or rotate of A, format ACC (R114). -/
def State.shiftAcc (op : ShiftOp) (n : Nat) (s : State) : State :=
  let r := op.result s.a (s.flag .c)
  (((s.setFlag .c (op.carry s.a)).setZN r).setReg .a r).retire 1 n

/-- A shift or rotate of a memory byte (R114): one read and one write at the effective address; A is not touched. -/
def State.shiftMem (op : ShiftOp) (m : Mode) (n : Nat) (s : State) : State :=
  let l := s.locate m
  let v := l.st.memRead l.ea
  let r := op.result v.1 (v.2.flag .c)
  (((v.2.setFlag .c (op.carry v.1)).setZN r).memWrite l.ea r).retire m.length n

/-! AND: bitwise AND memory with accumulator (R110). -/

def execAndImm (imm : Byte) (s : State) : Result := .next (s.logic (· &&& ·) (.imm imm) 2)
def execAndZp (zp : Byte) (s : State) : Result := .next (s.logic (· &&& ·) (.mem (.zp zp)) 3)
def execAndZpx (zp : Byte) (s : State) : Result := .next (s.logic (· &&& ·) (.mem (.zpx zp)) 4)
def execAndAbs (addr : Word) (s : State) : Result := .next (s.logic (· &&& ·) (.mem (.abs addr)) 4)
def execAndAbsx (addr : Word) (s : State) : Result := .next (s.logic (· &&& ·) (.mem (.absx addr)) 4)
def execAndAbsy (addr : Word) (s : State) : Result := .next (s.logic (· &&& ·) (.mem (.absy addr)) 4)
def execAndIndx (zp : Byte) (s : State) : Result := .next (s.logic (· &&& ·) (.mem (.indx zp)) 6)
def execAndIndy (zp : Byte) (s : State) : Result := .next (s.logic (· &&& ·) (.mem (.indy zp)) 5)

/-! ORA: bitwise OR memory with accumulator (R111). -/

def execOraImm (imm : Byte) (s : State) : Result := .next (s.logic (· ||| ·) (.imm imm) 2)
def execOraZp (zp : Byte) (s : State) : Result := .next (s.logic (· ||| ·) (.mem (.zp zp)) 3)
def execOraZpx (zp : Byte) (s : State) : Result := .next (s.logic (· ||| ·) (.mem (.zpx zp)) 4)
def execOraAbs (addr : Word) (s : State) : Result := .next (s.logic (· ||| ·) (.mem (.abs addr)) 4)
def execOraAbsx (addr : Word) (s : State) : Result := .next (s.logic (· ||| ·) (.mem (.absx addr)) 4)
def execOraAbsy (addr : Word) (s : State) : Result := .next (s.logic (· ||| ·) (.mem (.absy addr)) 4)
def execOraIndx (zp : Byte) (s : State) : Result := .next (s.logic (· ||| ·) (.mem (.indx zp)) 6)
def execOraIndy (zp : Byte) (s : State) : Result := .next (s.logic (· ||| ·) (.mem (.indy zp)) 5)

/-! EOR: bitwise exclusive OR memory with accumulator (R112). -/

def execEorImm (imm : Byte) (s : State) : Result := .next (s.logic (· ^^^ ·) (.imm imm) 2)
def execEorZp (zp : Byte) (s : State) : Result := .next (s.logic (· ^^^ ·) (.mem (.zp zp)) 3)
def execEorZpx (zp : Byte) (s : State) : Result := .next (s.logic (· ^^^ ·) (.mem (.zpx zp)) 4)
def execEorAbs (addr : Word) (s : State) : Result := .next (s.logic (· ^^^ ·) (.mem (.abs addr)) 4)
def execEorAbsx (addr : Word) (s : State) : Result := .next (s.logic (· ^^^ ·) (.mem (.absx addr)) 4)
def execEorAbsy (addr : Word) (s : State) : Result := .next (s.logic (· ^^^ ·) (.mem (.absy addr)) 4)
def execEorIndx (zp : Byte) (s : State) : Result := .next (s.logic (· ^^^ ·) (.mem (.indx zp)) 6)
def execEorIndy (zp : Byte) (s : State) : Result := .next (s.logic (· ^^^ ·) (.mem (.indy zp)) 5)

/-! BIT: test bits of memory against accumulator (R113). -/

def execBitZp (zp : Byte) (s : State) : Result := .next (s.bitTest (.mem (.zp zp)) 3)
def execBitAbs (addr : Word) (s : State) : Result := .next (s.bitTest (.mem (.abs addr)) 4)

/-! ASL: arithmetic shift left (R115). -/

def execAslAcc (s : State) : Result := .next (s.shiftAcc .asl 2)
def execAslZp (zp : Byte) (s : State) : Result := .next (s.shiftMem .asl (.zp zp) 5)
def execAslZpx (zp : Byte) (s : State) : Result := .next (s.shiftMem .asl (.zpx zp) 6)
def execAslAbs (addr : Word) (s : State) : Result := .next (s.shiftMem .asl (.abs addr) 6)
def execAslAbsx (addr : Word) (s : State) : Result := .next (s.shiftMem .asl (.absx addr) 7)

/-! LSR: logical shift right (R116). -/

def execLsrAcc (s : State) : Result := .next (s.shiftAcc .lsr 2)
def execLsrZp (zp : Byte) (s : State) : Result := .next (s.shiftMem .lsr (.zp zp) 5)
def execLsrZpx (zp : Byte) (s : State) : Result := .next (s.shiftMem .lsr (.zpx zp) 6)
def execLsrAbs (addr : Word) (s : State) : Result := .next (s.shiftMem .lsr (.abs addr) 6)
def execLsrAbsx (addr : Word) (s : State) : Result := .next (s.shiftMem .lsr (.absx addr) 7)

/-! ROL: rotate left through carry (R117). -/

def execRolAcc (s : State) : Result := .next (s.shiftAcc .rol 2)
def execRolZp (zp : Byte) (s : State) : Result := .next (s.shiftMem .rol (.zp zp) 5)
def execRolZpx (zp : Byte) (s : State) : Result := .next (s.shiftMem .rol (.zpx zp) 6)
def execRolAbs (addr : Word) (s : State) : Result := .next (s.shiftMem .rol (.abs addr) 6)
def execRolAbsx (addr : Word) (s : State) : Result := .next (s.shiftMem .rol (.absx addr) 7)

/-! ROR: rotate right through carry (R118). -/

def execRorAcc (s : State) : Result := .next (s.shiftAcc .ror 2)
def execRorZp (zp : Byte) (s : State) : Result := .next (s.shiftMem .ror (.zp zp) 5)
def execRorZpx (zp : Byte) (s : State) : Result := .next (s.shiftMem .ror (.zpx zp) 6)
def execRorAbs (addr : Word) (s : State) : Result := .next (s.shiftMem .ror (.abs addr) 6)
def execRorAbsx (addr : Word) (s : State) : Result := .next (s.shiftMem .ror (.absx addr) 7)

end Sys2Proof.Machine
end

