-- ==== Sys2Proof/Machine/System.lean ====
section
/-! DEFINITION. Meanings: flags, no-operation and system (spec/46_flags_system.md R150-R159). -/

namespace Sys2Proof.Machine

/-! CLC: clear carry (R150). -/

def execClc (s : State) : Result := .next ((s.setFlag .c false).retire 1 2)

/-! SEC: set carry (R151). -/

def execSec (s : State) : Result := .next ((s.setFlag .c true).retire 1 2)

/-! CLI: clear interrupt disable (R152). -/

def execCli (s : State) : Result := .next ((s.setFlag .i false).retire 1 2)

/-! SEI: set interrupt disable (R153). -/

def execSei (s : State) : Result := .next ((s.setFlag .i true).retire 1 2)

/-! CLV: clear overflow (R154). -/

def execClv (s : State) : Result := .next ((s.setFlag .v false).retire 1 2)

/-! CLD: clear decimal (R155). -/

def execCld (s : State) : Result := .next ((s.setFlag .d false).retire 1 2)

/-! SED: set decimal (R156). -/

def execSed (s : State) : Result := .next ((s.setFlag .d true).retire 1 2)

/-! NOP: no operation (R157). -/

def execNop (s : State) : Result := .next (s.retire 1 2)

/-! BRK: software interrupt: the byte after it is skipped and never fetched (R158, R176, R178). -/

def execBrk (s : State) : Result := .next (s.takeException (s.pc + 2) (statusWithBreak s.p) irqVector)

/-! RTI: return from interrupt (R159). -/

def execRti (s : State) : Result := .next (s.returnFromException 6)

end Sys2Proof.Machine
end

