-- ==== Sys2Proof/Machine/TransferStack.lean ====
section
/-! DEFINITION. Meanings: register transfers and the stack (spec/41_transfer_stack.md R90-R99). -/

namespace Sys2Proof.Machine

/-- A transfer that sets Z and N from the value (R90-R94). -/
def State.transfer (src dst : Reg) (n : Nat) (s : State) : State :=
  ((s.setReg dst (s.reg src)).setZN (s.reg src)).retire 1 n

/-! TAX: transfer A to X (R90). -/

def execTax (s : State) : Result := .next (s.transfer .a .x 2)

/-! TAY: transfer A to Y (R91). -/

def execTay (s : State) : Result := .next (s.transfer .a .y 2)

/-! TXA: transfer X to A (R92). -/

def execTxa (s : State) : Result := .next (s.transfer .x .a 2)

/-! TYA: transfer Y to A (R93). -/

def execTya (s : State) : Result := .next (s.transfer .y .a 2)

/-! TSX: transfer stack pointer to X (R94). -/

def execTsx (s : State) : Result := .next (s.transfer .s .x 2)

/-! TXS: transfer X to stack pointer, no flags (R95). -/

def execTxs (s : State) : Result := .next ((s.setReg .s s.x).retire 1 2)

/-! PHA: push accumulator (R96). -/

def execPha (s : State) : Result := .next ((s.push s.a).retire 1 3)

/-! PHP: push processor status (R97). -/

def execPhp (s : State) : Result := .next ((s.push (statusWithBreak s.p)).retire 1 3)

/-! PLA: pull accumulator (R98). -/

def execPla (s : State) : Result := .next (((s.pull.2.setReg .a s.pull.1).setZN s.pull.1).retire 1 4)

/-! PLP: pull processor status (R99). -/

def execPlp (s : State) : Result := .next ((s.pull.2.setStatus s.pull.1).retire 1 4)

end Sys2Proof.Machine
end

