-- ==== Sys2Proof/Machine/Dispatch.lean ====
section
/-! DEFINITION. The dispatch: one arm for each constructor of `Instr`, each one call of the instruction's meaning. -/

namespace Sys2Proof.Machine

def exec (i : Instr) (s : State) : Host.Outcome State Fault Refusal :=
  match i with
  -- spec/40_load_store.md
  | .ldaImm imm => Sys2Proof.Machine.execLdaImm imm s
  | .ldaZp zp => Sys2Proof.Machine.execLdaZp zp s
  | .ldaZpx zp => Sys2Proof.Machine.execLdaZpx zp s
  | .ldaAbs addr => Sys2Proof.Machine.execLdaAbs addr s
  | .ldaAbsx addr => Sys2Proof.Machine.execLdaAbsx addr s
  | .ldaAbsy addr => Sys2Proof.Machine.execLdaAbsy addr s
  | .ldaIndx zp => Sys2Proof.Machine.execLdaIndx zp s
  | .ldaIndy zp => Sys2Proof.Machine.execLdaIndy zp s
  | .ldxImm imm => Sys2Proof.Machine.execLdxImm imm s
  | .ldxZp zp => Sys2Proof.Machine.execLdxZp zp s
  | .ldxZpy zp => Sys2Proof.Machine.execLdxZpy zp s
  | .ldxAbs addr => Sys2Proof.Machine.execLdxAbs addr s
  | .ldxAbsy addr => Sys2Proof.Machine.execLdxAbsy addr s
  | .ldyImm imm => Sys2Proof.Machine.execLdyImm imm s
  | .ldyZp zp => Sys2Proof.Machine.execLdyZp zp s
  | .ldyZpx zp => Sys2Proof.Machine.execLdyZpx zp s
  | .ldyAbs addr => Sys2Proof.Machine.execLdyAbs addr s
  | .ldyAbsx addr => Sys2Proof.Machine.execLdyAbsx addr s
  | .staZp zp => Sys2Proof.Machine.execStaZp zp s
  | .staZpx zp => Sys2Proof.Machine.execStaZpx zp s
  | .staAbs addr => Sys2Proof.Machine.execStaAbs addr s
  | .staAbsx addr => Sys2Proof.Machine.execStaAbsx addr s
  | .staAbsy addr => Sys2Proof.Machine.execStaAbsy addr s
  | .staIndx zp => Sys2Proof.Machine.execStaIndx zp s
  | .staIndy zp => Sys2Proof.Machine.execStaIndy zp s
  | .stxZp zp => Sys2Proof.Machine.execStxZp zp s
  | .stxZpy zp => Sys2Proof.Machine.execStxZpy zp s
  | .stxAbs addr => Sys2Proof.Machine.execStxAbs addr s
  | .styZp zp => Sys2Proof.Machine.execStyZp zp s
  | .styZpx zp => Sys2Proof.Machine.execStyZpx zp s
  | .styAbs addr => Sys2Proof.Machine.execStyAbs addr s
  -- spec/41_transfer_stack.md
  | .tax => Sys2Proof.Machine.execTax s
  | .tay => Sys2Proof.Machine.execTay s
  | .txa => Sys2Proof.Machine.execTxa s
  | .tya => Sys2Proof.Machine.execTya s
  | .tsx => Sys2Proof.Machine.execTsx s
  | .txs => Sys2Proof.Machine.execTxs s
  | .pha => Sys2Proof.Machine.execPha s
  | .php => Sys2Proof.Machine.execPhp s
  | .pla => Sys2Proof.Machine.execPla s
  | .plp => Sys2Proof.Machine.execPlp s
  -- spec/42_arithmetic.md
  | .adcImm imm => Sys2Proof.Machine.execAdcImm imm s
  | .adcZp zp => Sys2Proof.Machine.execAdcZp zp s
  | .adcZpx zp => Sys2Proof.Machine.execAdcZpx zp s
  | .adcAbs addr => Sys2Proof.Machine.execAdcAbs addr s
  | .adcAbsx addr => Sys2Proof.Machine.execAdcAbsx addr s
  | .adcAbsy addr => Sys2Proof.Machine.execAdcAbsy addr s
  | .adcIndx zp => Sys2Proof.Machine.execAdcIndx zp s
  | .adcIndy zp => Sys2Proof.Machine.execAdcIndy zp s
  | .sbcImm imm => Sys2Proof.Machine.execSbcImm imm s
  | .sbcZp zp => Sys2Proof.Machine.execSbcZp zp s
  | .sbcZpx zp => Sys2Proof.Machine.execSbcZpx zp s
  | .sbcAbs addr => Sys2Proof.Machine.execSbcAbs addr s
  | .sbcAbsx addr => Sys2Proof.Machine.execSbcAbsx addr s
  | .sbcAbsy addr => Sys2Proof.Machine.execSbcAbsy addr s
  | .sbcIndx zp => Sys2Proof.Machine.execSbcIndx zp s
  | .sbcIndy zp => Sys2Proof.Machine.execSbcIndy zp s
  | .cmpImm imm => Sys2Proof.Machine.execCmpImm imm s
  | .cmpZp zp => Sys2Proof.Machine.execCmpZp zp s
  | .cmpZpx zp => Sys2Proof.Machine.execCmpZpx zp s
  | .cmpAbs addr => Sys2Proof.Machine.execCmpAbs addr s
  | .cmpAbsx addr => Sys2Proof.Machine.execCmpAbsx addr s
  | .cmpAbsy addr => Sys2Proof.Machine.execCmpAbsy addr s
  | .cmpIndx zp => Sys2Proof.Machine.execCmpIndx zp s
  | .cmpIndy zp => Sys2Proof.Machine.execCmpIndy zp s
  | .cpxImm imm => Sys2Proof.Machine.execCpxImm imm s
  | .cpxZp zp => Sys2Proof.Machine.execCpxZp zp s
  | .cpxAbs addr => Sys2Proof.Machine.execCpxAbs addr s
  | .cpyImm imm => Sys2Proof.Machine.execCpyImm imm s
  | .cpyZp zp => Sys2Proof.Machine.execCpyZp zp s
  | .cpyAbs addr => Sys2Proof.Machine.execCpyAbs addr s
  -- spec/43_logic_shift.md
  | .andImm imm => Sys2Proof.Machine.execAndImm imm s
  | .andZp zp => Sys2Proof.Machine.execAndZp zp s
  | .andZpx zp => Sys2Proof.Machine.execAndZpx zp s
  | .andAbs addr => Sys2Proof.Machine.execAndAbs addr s
  | .andAbsx addr => Sys2Proof.Machine.execAndAbsx addr s
  | .andAbsy addr => Sys2Proof.Machine.execAndAbsy addr s
  | .andIndx zp => Sys2Proof.Machine.execAndIndx zp s
  | .andIndy zp => Sys2Proof.Machine.execAndIndy zp s
  | .oraImm imm => Sys2Proof.Machine.execOraImm imm s
  | .oraZp zp => Sys2Proof.Machine.execOraZp zp s
  | .oraZpx zp => Sys2Proof.Machine.execOraZpx zp s
  | .oraAbs addr => Sys2Proof.Machine.execOraAbs addr s
  | .oraAbsx addr => Sys2Proof.Machine.execOraAbsx addr s
  | .oraAbsy addr => Sys2Proof.Machine.execOraAbsy addr s
  | .oraIndx zp => Sys2Proof.Machine.execOraIndx zp s
  | .oraIndy zp => Sys2Proof.Machine.execOraIndy zp s
  | .eorImm imm => Sys2Proof.Machine.execEorImm imm s
  | .eorZp zp => Sys2Proof.Machine.execEorZp zp s
  | .eorZpx zp => Sys2Proof.Machine.execEorZpx zp s
  | .eorAbs addr => Sys2Proof.Machine.execEorAbs addr s
  | .eorAbsx addr => Sys2Proof.Machine.execEorAbsx addr s
  | .eorAbsy addr => Sys2Proof.Machine.execEorAbsy addr s
  | .eorIndx zp => Sys2Proof.Machine.execEorIndx zp s
  | .eorIndy zp => Sys2Proof.Machine.execEorIndy zp s
  | .bitZp zp => Sys2Proof.Machine.execBitZp zp s
  | .bitAbs addr => Sys2Proof.Machine.execBitAbs addr s
  | .aslAcc => Sys2Proof.Machine.execAslAcc s
  | .aslZp zp => Sys2Proof.Machine.execAslZp zp s
  | .aslZpx zp => Sys2Proof.Machine.execAslZpx zp s
  | .aslAbs addr => Sys2Proof.Machine.execAslAbs addr s
  | .aslAbsx addr => Sys2Proof.Machine.execAslAbsx addr s
  | .lsrAcc => Sys2Proof.Machine.execLsrAcc s
  | .lsrZp zp => Sys2Proof.Machine.execLsrZp zp s
  | .lsrZpx zp => Sys2Proof.Machine.execLsrZpx zp s
  | .lsrAbs addr => Sys2Proof.Machine.execLsrAbs addr s
  | .lsrAbsx addr => Sys2Proof.Machine.execLsrAbsx addr s
  | .rolAcc => Sys2Proof.Machine.execRolAcc s
  | .rolZp zp => Sys2Proof.Machine.execRolZp zp s
  | .rolZpx zp => Sys2Proof.Machine.execRolZpx zp s
  | .rolAbs addr => Sys2Proof.Machine.execRolAbs addr s
  | .rolAbsx addr => Sys2Proof.Machine.execRolAbsx addr s
  | .rorAcc => Sys2Proof.Machine.execRorAcc s
  | .rorZp zp => Sys2Proof.Machine.execRorZp zp s
  | .rorZpx zp => Sys2Proof.Machine.execRorZpx zp s
  | .rorAbs addr => Sys2Proof.Machine.execRorAbs addr s
  | .rorAbsx addr => Sys2Proof.Machine.execRorAbsx addr s
  -- spec/44_incdec.md
  | .incZp zp => Sys2Proof.Machine.execIncZp zp s
  | .incZpx zp => Sys2Proof.Machine.execIncZpx zp s
  | .incAbs addr => Sys2Proof.Machine.execIncAbs addr s
  | .incAbsx addr => Sys2Proof.Machine.execIncAbsx addr s
  | .decZp zp => Sys2Proof.Machine.execDecZp zp s
  | .decZpx zp => Sys2Proof.Machine.execDecZpx zp s
  | .decAbs addr => Sys2Proof.Machine.execDecAbs addr s
  | .decAbsx addr => Sys2Proof.Machine.execDecAbsx addr s
  | .inx => Sys2Proof.Machine.execInx s
  | .iny => Sys2Proof.Machine.execIny s
  | .dex => Sys2Proof.Machine.execDex s
  | .dey => Sys2Proof.Machine.execDey s
  -- spec/45_control.md
  | .jmpAbs addr => Sys2Proof.Machine.execJmpAbs addr s
  | .jmpInd ptr => Sys2Proof.Machine.execJmpInd ptr s
  | .jsr addr => Sys2Proof.Machine.execJsr addr s
  | .rts => Sys2Proof.Machine.execRts s
  | .bpl rel => Sys2Proof.Machine.execBpl rel s
  | .bmi rel => Sys2Proof.Machine.execBmi rel s
  | .bvc rel => Sys2Proof.Machine.execBvc rel s
  | .bvs rel => Sys2Proof.Machine.execBvs rel s
  | .bcc rel => Sys2Proof.Machine.execBcc rel s
  | .bcs rel => Sys2Proof.Machine.execBcs rel s
  | .bne rel => Sys2Proof.Machine.execBne rel s
  | .beq rel => Sys2Proof.Machine.execBeq rel s
  -- spec/46_flags_system.md
  | .clc => Sys2Proof.Machine.execClc s
  | .sec => Sys2Proof.Machine.execSec s
  | .cli => Sys2Proof.Machine.execCli s
  | .sei => Sys2Proof.Machine.execSei s
  | .clv => Sys2Proof.Machine.execClv s
  | .cld => Sys2Proof.Machine.execCld s
  | .sed => Sys2Proof.Machine.execSed s
  | .nop => Sys2Proof.Machine.execNop s
  | .brk => Sys2Proof.Machine.execBrk s
  | .rti => Sys2Proof.Machine.execRti s
  -- spec/47_illegal.md
  | .illegal02 => Sys2Proof.Machine.execIllegal02 s
  | .illegal03 => Sys2Proof.Machine.execIllegal03 s
  | .illegal04 => Sys2Proof.Machine.execIllegal04 s
  | .illegal07 => Sys2Proof.Machine.execIllegal07 s
  | .illegal0B => Sys2Proof.Machine.execIllegal0B s
  | .illegal0C => Sys2Proof.Machine.execIllegal0C s
  | .illegal0F => Sys2Proof.Machine.execIllegal0F s
  | .illegal12 => Sys2Proof.Machine.execIllegal12 s
  | .illegal13 => Sys2Proof.Machine.execIllegal13 s
  | .illegal14 => Sys2Proof.Machine.execIllegal14 s
  | .illegal17 => Sys2Proof.Machine.execIllegal17 s
  | .illegal1A => Sys2Proof.Machine.execIllegal1A s
  | .illegal1B => Sys2Proof.Machine.execIllegal1B s
  | .illegal1C => Sys2Proof.Machine.execIllegal1C s
  | .illegal1F => Sys2Proof.Machine.execIllegal1F s
  | .illegal22 => Sys2Proof.Machine.execIllegal22 s
  | .illegal23 => Sys2Proof.Machine.execIllegal23 s
  | .illegal27 => Sys2Proof.Machine.execIllegal27 s
  | .illegal2B => Sys2Proof.Machine.execIllegal2B s
  | .illegal2F => Sys2Proof.Machine.execIllegal2F s
  | .illegal32 => Sys2Proof.Machine.execIllegal32 s
  | .illegal33 => Sys2Proof.Machine.execIllegal33 s
  | .illegal34 => Sys2Proof.Machine.execIllegal34 s
  | .illegal37 => Sys2Proof.Machine.execIllegal37 s
  | .illegal3A => Sys2Proof.Machine.execIllegal3A s
  | .illegal3B => Sys2Proof.Machine.execIllegal3B s
  | .illegal3C => Sys2Proof.Machine.execIllegal3C s
  | .illegal3F => Sys2Proof.Machine.execIllegal3F s
  | .illegal42 => Sys2Proof.Machine.execIllegal42 s
  | .illegal43 => Sys2Proof.Machine.execIllegal43 s
  | .illegal44 => Sys2Proof.Machine.execIllegal44 s
  | .illegal47 => Sys2Proof.Machine.execIllegal47 s
  | .illegal4B => Sys2Proof.Machine.execIllegal4B s
  | .illegal4F => Sys2Proof.Machine.execIllegal4F s
  | .illegal52 => Sys2Proof.Machine.execIllegal52 s
  | .illegal53 => Sys2Proof.Machine.execIllegal53 s
  | .illegal54 => Sys2Proof.Machine.execIllegal54 s
  | .illegal57 => Sys2Proof.Machine.execIllegal57 s
  | .illegal5A => Sys2Proof.Machine.execIllegal5A s
  | .illegal5B => Sys2Proof.Machine.execIllegal5B s
  | .illegal5C => Sys2Proof.Machine.execIllegal5C s
  | .illegal5F => Sys2Proof.Machine.execIllegal5F s
  | .illegal62 => Sys2Proof.Machine.execIllegal62 s
  | .illegal63 => Sys2Proof.Machine.execIllegal63 s
  | .illegal64 => Sys2Proof.Machine.execIllegal64 s
  | .illegal67 => Sys2Proof.Machine.execIllegal67 s
  | .illegal6B => Sys2Proof.Machine.execIllegal6B s
  | .illegal6F => Sys2Proof.Machine.execIllegal6F s
  | .illegal72 => Sys2Proof.Machine.execIllegal72 s
  | .illegal73 => Sys2Proof.Machine.execIllegal73 s
  | .illegal74 => Sys2Proof.Machine.execIllegal74 s
  | .illegal77 => Sys2Proof.Machine.execIllegal77 s
  | .illegal7A => Sys2Proof.Machine.execIllegal7A s
  | .illegal7B => Sys2Proof.Machine.execIllegal7B s
  | .illegal7C => Sys2Proof.Machine.execIllegal7C s
  | .illegal7F => Sys2Proof.Machine.execIllegal7F s
  | .illegal80 => Sys2Proof.Machine.execIllegal80 s
  | .illegal82 => Sys2Proof.Machine.execIllegal82 s
  | .illegal83 => Sys2Proof.Machine.execIllegal83 s
  | .illegal87 => Sys2Proof.Machine.execIllegal87 s
  | .illegal89 => Sys2Proof.Machine.execIllegal89 s
  | .illegal8B => Sys2Proof.Machine.execIllegal8B s
  | .illegal8F => Sys2Proof.Machine.execIllegal8F s
  | .illegal92 => Sys2Proof.Machine.execIllegal92 s
  | .illegal93 => Sys2Proof.Machine.execIllegal93 s
  | .illegal97 => Sys2Proof.Machine.execIllegal97 s
  | .illegal9B => Sys2Proof.Machine.execIllegal9B s
  | .illegal9C => Sys2Proof.Machine.execIllegal9C s
  | .illegal9E => Sys2Proof.Machine.execIllegal9E s
  | .illegal9F => Sys2Proof.Machine.execIllegal9F s
  | .illegalA3 => Sys2Proof.Machine.execIllegalA3 s
  | .illegalA7 => Sys2Proof.Machine.execIllegalA7 s
  | .illegalAB => Sys2Proof.Machine.execIllegalAB s
  | .illegalAF => Sys2Proof.Machine.execIllegalAF s
  | .illegalB2 => Sys2Proof.Machine.execIllegalB2 s
  | .illegalB3 => Sys2Proof.Machine.execIllegalB3 s
  | .illegalB7 => Sys2Proof.Machine.execIllegalB7 s
  | .illegalBB => Sys2Proof.Machine.execIllegalBB s
  | .illegalBF => Sys2Proof.Machine.execIllegalBF s
  | .illegalC2 => Sys2Proof.Machine.execIllegalC2 s
  | .illegalC3 => Sys2Proof.Machine.execIllegalC3 s
  | .illegalC7 => Sys2Proof.Machine.execIllegalC7 s
  | .illegalCB => Sys2Proof.Machine.execIllegalCB s
  | .illegalCF => Sys2Proof.Machine.execIllegalCF s
  | .illegalD2 => Sys2Proof.Machine.execIllegalD2 s
  | .illegalD3 => Sys2Proof.Machine.execIllegalD3 s
  | .illegalD4 => Sys2Proof.Machine.execIllegalD4 s
  | .illegalD7 => Sys2Proof.Machine.execIllegalD7 s
  | .illegalDA => Sys2Proof.Machine.execIllegalDA s
  | .illegalDB => Sys2Proof.Machine.execIllegalDB s
  | .illegalDC => Sys2Proof.Machine.execIllegalDC s
  | .illegalDF => Sys2Proof.Machine.execIllegalDF s
  | .illegalE2 => Sys2Proof.Machine.execIllegalE2 s
  | .illegalE3 => Sys2Proof.Machine.execIllegalE3 s
  | .illegalE7 => Sys2Proof.Machine.execIllegalE7 s
  | .illegalEB => Sys2Proof.Machine.execIllegalEB s
  | .illegalEF => Sys2Proof.Machine.execIllegalEF s
  | .illegalF2 => Sys2Proof.Machine.execIllegalF2 s
  | .illegalF3 => Sys2Proof.Machine.execIllegalF3 s
  | .illegalF4 => Sys2Proof.Machine.execIllegalF4 s
  | .illegalF7 => Sys2Proof.Machine.execIllegalF7 s
  | .illegalFA => Sys2Proof.Machine.execIllegalFA s
  | .illegalFB => Sys2Proof.Machine.execIllegalFB s
  | .illegalFC => Sys2Proof.Machine.execIllegalFC s
  | .illegalFF => Sys2Proof.Machine.execIllegalFF s

end Sys2Proof.Machine
end

