-- ==== Sys2Proof/Machine/Step.lean ====
section
/-! DEFINITION. One step of the machine (spec/60_exceptions.md R174), and the host's way to place an instruction where
the next step fetches it. -/

namespace Sys2Proof.Machine

/-- One step (R174, R7): what the environment did since the last step lands; the poll; then no step at all (a latched
fault), or an interrupt entry, or one whole instruction (R52). -/
def step (s : State) : Host.Outcome State Fault Refusal :=
  match s.applyInputs.poll with
  | .stuck e => .fault (.decodeErrorLatched e)
  | .nmi => .next s.applyInputs.enterNmi
  | .irq => .next s.applyInputs.enterIrq
  | .instruction => exec s.applyInputs.fetch.1 s.applyInputs.fetch.2

/-- The address `withFetchWord` loads an instruction at, in the cartridge window (R39). -/
def loadAddr : Word := 0x8000

/-- The bytes of the cartridge in place: none where the environment is free. -/
def Dev.rom : Dev → List Host.Cell
  | .free => []
  | .flatRom rom => rom

/-- `s` with an instruction's bytes stored where `step` fetches next (log 42).  After reset PC is a free value, the two
bytes of a vector that no cartridge has given yet, so the word is loaded as a cartridge, `FlatROM(rom)` (R42): its bytes
at 0x8000, the reset vector naming 0x8000, PC seeded from it (R190, R193).  Nothing stands between the state and the fetch: no
latched fault, no interrupt, no pending action (R174, R194). -/
def State.withFetchWord (s : State) (nbits w : Nat) : State :=
  { s with
    dev := .flatRom ((Memory.setAll s.dev.rom loadAddr.toNat (tableBytes nbits w)).setAll resetVector.toNat
      [loByte loadAddr, hiByte loadAddr])
    pc := loadAddr, fault := none, nmiPending := false, irqIn := false, inputs := [] }

end Sys2Proof.Machine
end

