-- ==== Sys2Proof/Safety.lean ====
section
/-! DEFINITION. The terms the statements use: the invariant of a safe run, the frames (what is left unchanged), and
the rows of the spec's instruction files: for each mnemonic and format the constructor, the opcode byte and the base
cycle count, written from the "Encodings" line of the mnemonic's rule. -/

namespace Sys2Proof.Machine

/-! ### The invariant of a safe run -/

/-- In the stored status byte bit 5 is always 1 and bit 4 is always 0 (R15). -/
def StatusForm (p : Byte) : Prop := p.getLsbD 5 = true ∧ p.getLsbD 4 = false

/-- What holds of every reachable state: the form of P (R15), and the canonical form of memory. -/
def State.Inv (s : State) : Prop := StatusForm s.p ∧ s.mem.wf = true

/-- Nothing stands before the fetch: no pending action of the environment, no latched fault, no NMI, no unmasked IRQ
(R174). -/
def State.ReadyToFetch (s : State) : Prop :=
  s.inputs = [] ∧ s.fault = none ∧ s.nmiPending = false ∧ (s.irqIn = true → s.flag .i = true)

/-! ### Frames -/

/-- Every register but those listed is unchanged. -/
def RegsKeptExcept (rs : List Reg) (s t : State) : Prop := ∀ q, q ∉ rs → t.reg q = s.reg q

/-- Every bit of P is unchanged but those of the flags listed: the other flags, and bits 4 and 5. -/
def FlagsKeptExcept (fs : List Flag) (s t : State) : Prop :=
  ∀ k, k < 8 → (∀ f ∈ fs, f.pos ≠ k) → t.p.getLsbD k = s.p.getLsbD k

/-- The interrupt latch, the fault latch, the IRQ level and the environment's script are unchanged. -/
def LatchesKept (s t : State) : Prop :=
  t.nmiPending = s.nmiPending ∧ t.fault = s.fault ∧ t.irqIn = s.irqIn ∧ t.inputs = s.inputs

/-- Every byte of memory is unchanged but those at the addresses listed (and at their mirrors): every byte that is
known, in RAM (R35) or shown by `FlatROM` (R42), and what a read of RAM returns.  A free environment's answers are not
memory (R41). -/
def MemoryKeptExcept (written : List Word) (s t : State) : Prop :=
  ∀ a, (∀ w ∈ written, busKey a ≠ busKey w) →
    t.cell a = s.cell a ∧ (inRam a = true → t.busByte a = s.busByte a)

/-- A byte `v` was stored at `ea`: in RAM, every mirror of `ea` reads as `v`, and all other memory is unchanged;
outside RAM all memory is unchanged: the write is the environment's (R41; it changes no RAM byte, and `FlatROM` ignores
it, R42; log 36). -/
def StoredAt (ea : Word) (v : Byte) (s t : State) : Prop :=
  (inRam ea = true → (∀ a, busKey a = busKey ea → t.busByte a = v) ∧ MemoryKeptExcept [ea] s t) ∧
  (inRam ea = false → MemoryKeptExcept [] s t)

/-- Z and N are those of the value `v` (R6 `setZN`). -/
def ZNOf (v : Byte) (t : State) : Prop := t.flag .z = decide (v = 0) ∧ t.flag .n = v.getLsbD 7

/-- The instruction ended and control goes on behind it: PC past its bytes (R12), `n` cycles reported (R200), and
exactly `events` crossed the boundary of the block, newest first, before the count (R31). -/
def Retired (length n : Nat) (events : List Event) (s t : State) : Prop :=
  t.pc.toNat = (s.pc.toNat + length) % 65536 ∧ t.cycles = some n ∧ t.trace = .tick n :: (events ++ s.trace)

/-- NMI, IRQ or BRK was taken (R176, R178): the return address and the status byte are on the stack, S is 3 lower, I is
set, every other flag, A, X, Y and all other memory are unchanged, and PC is the vector's two bytes, read after the
pushes, low byte first. -/
def ExceptionTaken (ret : Word) (status : Byte) (vec : Word) (s t : State) : Prop :=
  let w0 := stackAddr s.sp
  let w1 := stackAddr (s.sp - 1)
  let w2 := stackAddr (s.sp - 2)
  let u : State :=
    { s with mem := t.mem, trace := .write w2 status :: .write w1 (loByte ret) :: .write w0 (hiByte ret) :: s.trace }
  let l := u.busByte vec
  let h := ({ u with trace := .read vec l :: u.trace } : State).busByte (vec + 1)
  t.busByte w0 = hiByte ret ∧ t.busByte w1 = loByte ret ∧ t.busByte w2 = status ∧ t.sp = s.sp - 3 ∧
  t.flag .i = true ∧ FlagsKeptExcept [.i] s t ∧ RegsKeptExcept [.s] s t ∧ MemoryKeptExcept [w0, w1, w2] s t ∧
  t.pc = mkWord h l ∧ t.cycles = some 7 ∧ t.trace = .tick 7 :: .read (vec + 1) h :: .read vec l :: u.trace

/-! ### The rows of the instruction files -/

/-- A row: the instruction, the opcode byte of its encoding, its base cycle count. -/
structure Row where
  instr : Instr
  opcode : Byte
  base : Nat
  deriving DecidableEq, Repr

/-- The row's encoding: `length` bytes, the opcode byte first (R51). -/
def Row.Encoded (row : Row) (length : Nat) : Prop :=
  (encode row.instr).length = length ∧ (encode row.instr).head? = some row.opcode

/-- What every instruction of access class "read" does apart from its registers and flags (R52, R68, R69): its
encoding; PC, cycles with the page-crossing penalty, the operand's reads and no other transaction; memory and latches
unchanged. -/
def ReadsOperand (row : Row) (src : Source) (s t : State) : Prop :=
  row.Encoded src.length ∧ MemoryKeptExcept [] s t ∧ LatchesKept s t ∧
  t.pc.toNat = (s.pc.toNat + src.length) % 65536 ∧
  t.cycles = some (row.base + penalty (s.operand src).crossed) ∧
  t.trace = .tick (row.base + penalty (s.operand src).crossed) :: (s.operand src).st.trace

/-- LDA (R80). -/
def ldaRow : Source → Option Row
  | .imm b => some ⟨.ldaImm b, 0xA9, 2⟩
  | .mem (.zp b) => some ⟨.ldaZp b, 0xA5, 3⟩
  | .mem (.zpx b) => some ⟨.ldaZpx b, 0xB5, 4⟩
  | .mem (.abs w) => some ⟨.ldaAbs w, 0xAD, 4⟩
  | .mem (.absx w) => some ⟨.ldaAbsx w, 0xBD, 4⟩
  | .mem (.absy w) => some ⟨.ldaAbsy w, 0xB9, 4⟩
  | .mem (.indx b) => some ⟨.ldaIndx b, 0xA1, 6⟩
  | .mem (.indy b) => some ⟨.ldaIndy b, 0xB1, 5⟩
  | .mem (.zpy _) => none

/-- LDX (R81). -/
def ldxRow : Source → Option Row
  | .imm b => some ⟨.ldxImm b, 0xA2, 2⟩
  | .mem (.zp b) => some ⟨.ldxZp b, 0xA6, 3⟩
  | .mem (.zpy b) => some ⟨.ldxZpy b, 0xB6, 4⟩
  | .mem (.abs w) => some ⟨.ldxAbs w, 0xAE, 4⟩
  | .mem (.absy w) => some ⟨.ldxAbsy w, 0xBE, 4⟩
  | .mem (.zpx _) | .mem (.absx _) | .mem (.indx _) | .mem (.indy _) => none

/-- LDY (R82). -/
def ldyRow : Source → Option Row
  | .imm b => some ⟨.ldyImm b, 0xA0, 2⟩
  | .mem (.zp b) => some ⟨.ldyZp b, 0xA4, 3⟩
  | .mem (.zpx b) => some ⟨.ldyZpx b, 0xB4, 4⟩
  | .mem (.abs w) => some ⟨.ldyAbs w, 0xAC, 4⟩
  | .mem (.absx w) => some ⟨.ldyAbsx w, 0xBC, 4⟩
  | .mem (.zpy _) | .mem (.absy _) | .mem (.indx _) | .mem (.indy _) => none

/-- ADC (R101). -/
def adcRow : Source → Option Row
  | .imm b => some ⟨.adcImm b, 0x69, 2⟩
  | .mem (.zp b) => some ⟨.adcZp b, 0x65, 3⟩
  | .mem (.zpx b) => some ⟨.adcZpx b, 0x75, 4⟩
  | .mem (.abs w) => some ⟨.adcAbs w, 0x6D, 4⟩
  | .mem (.absx w) => some ⟨.adcAbsx w, 0x7D, 4⟩
  | .mem (.absy w) => some ⟨.adcAbsy w, 0x79, 4⟩
  | .mem (.indx b) => some ⟨.adcIndx b, 0x61, 6⟩
  | .mem (.indy b) => some ⟨.adcIndy b, 0x71, 5⟩
  | .mem (.zpy _) => none

/-- SBC (R102). -/
def sbcRow : Source → Option Row
  | .imm b => some ⟨.sbcImm b, 0xE9, 2⟩
  | .mem (.zp b) => some ⟨.sbcZp b, 0xE5, 3⟩
  | .mem (.zpx b) => some ⟨.sbcZpx b, 0xF5, 4⟩
  | .mem (.abs w) => some ⟨.sbcAbs w, 0xED, 4⟩
  | .mem (.absx w) => some ⟨.sbcAbsx w, 0xFD, 4⟩
  | .mem (.absy w) => some ⟨.sbcAbsy w, 0xF9, 4⟩
  | .mem (.indx b) => some ⟨.sbcIndx b, 0xE1, 6⟩
  | .mem (.indy b) => some ⟨.sbcIndy b, 0xF1, 5⟩
  | .mem (.zpy _) => none

/-- CMP (R104). -/
def cmpRow : Source → Option Row
  | .imm b => some ⟨.cmpImm b, 0xC9, 2⟩
  | .mem (.zp b) => some ⟨.cmpZp b, 0xC5, 3⟩
  | .mem (.zpx b) => some ⟨.cmpZpx b, 0xD5, 4⟩
  | .mem (.abs w) => some ⟨.cmpAbs w, 0xCD, 4⟩
  | .mem (.absx w) => some ⟨.cmpAbsx w, 0xDD, 4⟩
  | .mem (.absy w) => some ⟨.cmpAbsy w, 0xD9, 4⟩
  | .mem (.indx b) => some ⟨.cmpIndx b, 0xC1, 6⟩
  | .mem (.indy b) => some ⟨.cmpIndy b, 0xD1, 5⟩
  | .mem (.zpy _) => none

/-- CPX (R105). -/
def cpxRow : Source → Option Row
  | .imm b => some ⟨.cpxImm b, 0xE0, 2⟩
  | .mem (.zp b) => some ⟨.cpxZp b, 0xE4, 3⟩
  | .mem (.abs w) => some ⟨.cpxAbs w, 0xEC, 4⟩
  | .mem (.zpx _) | .mem (.zpy _) | .mem (.absx _) | .mem (.absy _) | .mem (.indx _) | .mem (.indy _) => none

/-- CPY (R106). -/
def cpyRow : Source → Option Row
  | .imm b => some ⟨.cpyImm b, 0xC0, 2⟩
  | .mem (.zp b) => some ⟨.cpyZp b, 0xC4, 3⟩
  | .mem (.abs w) => some ⟨.cpyAbs w, 0xCC, 4⟩
  | .mem (.zpx _) | .mem (.zpy _) | .mem (.absx _) | .mem (.absy _) | .mem (.indx _) | .mem (.indy _) => none

/-- AND (R110). -/
def andRow : Source → Option Row
  | .imm b => some ⟨.andImm b, 0x29, 2⟩
  | .mem (.zp b) => some ⟨.andZp b, 0x25, 3⟩
  | .mem (.zpx b) => some ⟨.andZpx b, 0x35, 4⟩
  | .mem (.abs w) => some ⟨.andAbs w, 0x2D, 4⟩
  | .mem (.absx w) => some ⟨.andAbsx w, 0x3D, 4⟩
  | .mem (.absy w) => some ⟨.andAbsy w, 0x39, 4⟩
  | .mem (.indx b) => some ⟨.andIndx b, 0x21, 6⟩
  | .mem (.indy b) => some ⟨.andIndy b, 0x31, 5⟩
  | .mem (.zpy _) => none

/-- ORA (R111). -/
def oraRow : Source → Option Row
  | .imm b => some ⟨.oraImm b, 0x09, 2⟩
  | .mem (.zp b) => some ⟨.oraZp b, 0x05, 3⟩
  | .mem (.zpx b) => some ⟨.oraZpx b, 0x15, 4⟩
  | .mem (.abs w) => some ⟨.oraAbs w, 0x0D, 4⟩
  | .mem (.absx w) => some ⟨.oraAbsx w, 0x1D, 4⟩
  | .mem (.absy w) => some ⟨.oraAbsy w, 0x19, 4⟩
  | .mem (.indx b) => some ⟨.oraIndx b, 0x01, 6⟩
  | .mem (.indy b) => some ⟨.oraIndy b, 0x11, 5⟩
  | .mem (.zpy _) => none

/-- EOR (R112). -/
def eorRow : Source → Option Row
  | .imm b => some ⟨.eorImm b, 0x49, 2⟩
  | .mem (.zp b) => some ⟨.eorZp b, 0x45, 3⟩
  | .mem (.zpx b) => some ⟨.eorZpx b, 0x55, 4⟩
  | .mem (.abs w) => some ⟨.eorAbs w, 0x4D, 4⟩
  | .mem (.absx w) => some ⟨.eorAbsx w, 0x5D, 4⟩
  | .mem (.absy w) => some ⟨.eorAbsy w, 0x59, 4⟩
  | .mem (.indx b) => some ⟨.eorIndx b, 0x41, 6⟩
  | .mem (.indy b) => some ⟨.eorIndy b, 0x51, 5⟩
  | .mem (.zpy _) => none

/-- BIT (R113). -/
def bitRow : Source → Option Row
  | .mem (.zp b) => some ⟨.bitZp b, 0x24, 3⟩
  | .mem (.abs w) => some ⟨.bitAbs w, 0x2C, 4⟩
  | .imm _ | .mem (.zpx _) | .mem (.zpy _) | .mem (.absx _) | .mem (.absy _) | .mem (.indx _) | .mem (.indy _) => none

/-- STA (R83). -/
def staRow : Mode → Option Row
  | .zp b => some ⟨.staZp b, 0x85, 3⟩
  | .zpx b => some ⟨.staZpx b, 0x95, 4⟩
  | .abs w => some ⟨.staAbs w, 0x8D, 4⟩
  | .absx w => some ⟨.staAbsx w, 0x9D, 5⟩
  | .absy w => some ⟨.staAbsy w, 0x99, 5⟩
  | .indx b => some ⟨.staIndx b, 0x81, 6⟩
  | .indy b => some ⟨.staIndy b, 0x91, 6⟩
  | .zpy _ => none

/-- STX (R84). -/
def stxRow : Mode → Option Row
  | .zp b => some ⟨.stxZp b, 0x86, 3⟩
  | .zpy b => some ⟨.stxZpy b, 0x96, 4⟩
  | .abs w => some ⟨.stxAbs w, 0x8E, 4⟩
  | .zpx _ | .absx _ | .absy _ | .indx _ | .indy _ => none

/-- STY (R85). -/
def styRow : Mode → Option Row
  | .zp b => some ⟨.styZp b, 0x84, 3⟩
  | .zpx b => some ⟨.styZpx b, 0x94, 4⟩
  | .abs w => some ⟨.styAbs w, 0x8C, 4⟩
  | .zpy _ | .absx _ | .absy _ | .indx _ | .indy _ => none

/-- ASL, memory formats (R115). -/
def aslRow : Mode → Option Row
  | .zp b => some ⟨.aslZp b, 0x06, 5⟩
  | .zpx b => some ⟨.aslZpx b, 0x16, 6⟩
  | .abs w => some ⟨.aslAbs w, 0x0E, 6⟩
  | .absx w => some ⟨.aslAbsx w, 0x1E, 7⟩
  | .zpy _ | .absy _ | .indx _ | .indy _ => none

/-- LSR, memory formats (R116). -/
def lsrRow : Mode → Option Row
  | .zp b => some ⟨.lsrZp b, 0x46, 5⟩
  | .zpx b => some ⟨.lsrZpx b, 0x56, 6⟩
  | .abs w => some ⟨.lsrAbs w, 0x4E, 6⟩
  | .absx w => some ⟨.lsrAbsx w, 0x5E, 7⟩
  | .zpy _ | .absy _ | .indx _ | .indy _ => none

/-- ROL, memory formats (R117). -/
def rolRow : Mode → Option Row
  | .zp b => some ⟨.rolZp b, 0x26, 5⟩
  | .zpx b => some ⟨.rolZpx b, 0x36, 6⟩
  | .abs w => some ⟨.rolAbs w, 0x2E, 6⟩
  | .absx w => some ⟨.rolAbsx w, 0x3E, 7⟩
  | .zpy _ | .absy _ | .indx _ | .indy _ => none

/-- ROR, memory formats (R118). -/
def rorRow : Mode → Option Row
  | .zp b => some ⟨.rorZp b, 0x66, 5⟩
  | .zpx b => some ⟨.rorZpx b, 0x76, 6⟩
  | .abs w => some ⟨.rorAbs w, 0x6E, 6⟩
  | .absx w => some ⟨.rorAbsx w, 0x7E, 7⟩
  | .zpy _ | .absy _ | .indx _ | .indy _ => none

/-- INC (R120). -/
def incRow : Mode → Option Row
  | .zp b => some ⟨.incZp b, 0xE6, 5⟩
  | .zpx b => some ⟨.incZpx b, 0xF6, 6⟩
  | .abs w => some ⟨.incAbs w, 0xEE, 6⟩
  | .absx w => some ⟨.incAbsx w, 0xFE, 7⟩
  | .zpy _ | .absy _ | .indx _ | .indy _ => none

/-- DEC (R121). -/
def decRow : Mode → Option Row
  | .zp b => some ⟨.decZp b, 0xC6, 5⟩
  | .zpx b => some ⟨.decZpx b, 0xD6, 6⟩
  | .abs w => some ⟨.decAbs w, 0xCE, 6⟩
  | .absx w => some ⟨.decAbsx w, 0xDE, 7⟩
  | .zpy _ | .absy _ | .indx _ | .indy _ => none

/-- The loads (R80-R82), by the register they write. -/
def loadRow : Reg → Source → Option Row
  | .a, src => ldaRow src
  | .x, src => ldxRow src
  | .y, src => ldyRow src
  | .s, _ => none

/-- The compares (R104-R106), by the register they compare. -/
def compareRow : Reg → Source → Option Row
  | .a, src => cmpRow src
  | .x, src => cpxRow src
  | .y, src => cpyRow src
  | .s, _ => none

/-- The stores (R83-R85), by the register they store. -/
def storeRow : Reg → Mode → Option Row
  | .a, m => staRow m
  | .x, m => stxRow m
  | .y, m => styRow m
  | .s, _ => none

/-- The shifts of a memory byte (R115-R118). -/
def shiftRow : ShiftOp → Mode → Option Row
  | .asl, m => aslRow m
  | .lsr, m => lsrRow m
  | .rol, m => rolRow m
  | .ror, m => rorRow m

/-- The shifts of A, format ACC (R115-R118). -/
def shiftAccRow : ShiftOp → Row
  | .asl => ⟨.aslAcc, 0x0A, 2⟩
  | .lsr => ⟨.lsrAcc, 0x4A, 2⟩
  | .rol => ⟨.rolAcc, 0x2A, 2⟩
  | .ror => ⟨.rorAcc, 0x6A, 2⟩

/-- The branches (R134-R141), by the flag they test and the value they branch on; no branch tests I or D. -/
def branchRow : Flag → Bool → Byte → Option Row
  | .n, false, b => some ⟨.bpl b, 0x10, 2⟩
  | .n, true, b => some ⟨.bmi b, 0x30, 2⟩
  | .v, false, b => some ⟨.bvc b, 0x50, 2⟩
  | .v, true, b => some ⟨.bvs b, 0x70, 2⟩
  | .c, false, b => some ⟨.bcc b, 0x90, 2⟩
  | .c, true, b => some ⟨.bcs b, 0xB0, 2⟩
  | .z, false, b => some ⟨.bne b, 0xD0, 2⟩
  | .z, true, b => some ⟨.beq b, 0xF0, 2⟩
  | .i, _, _ | .d, _, _ => none

/-- The flag instructions (R150-R156), by the flag they write and its new value. -/
def flagRow : Flag → Bool → Option Row
  | .c, false => some ⟨.clc, 0x18, 2⟩
  | .c, true => some ⟨.sec, 0x38, 2⟩
  | .i, false => some ⟨.cli, 0x58, 2⟩
  | .i, true => some ⟨.sei, 0x78, 2⟩
  | .v, false => some ⟨.clv, 0xB8, 2⟩
  | .d, false => some ⟨.cld, 0xD8, 2⟩
  | .d, true => some ⟨.sed, 0xF8, 2⟩
  | .v, true | .z, _ | .n, _ => none

/-- The transfers (R90-R95), by source and destination. -/
def transferRow : Reg → Reg → Option Row
  | .a, .x => some ⟨.tax, 0xAA, 2⟩
  | .a, .y => some ⟨.tay, 0xA8, 2⟩
  | .x, .a => some ⟨.txa, 0x8A, 2⟩
  | .y, .a => some ⟨.tya, 0x98, 2⟩
  | .s, .x => some ⟨.tsx, 0xBA, 2⟩
  | .x, .s => some ⟨.txs, 0x9A, 2⟩
  | .a, .a | .a, .s | .x, .x | .x, .y | .y, .x | .y, .y | .y, .s | .s, .a | .s, .y | .s, .s => none

/-- INX, INY (up) and DEX, DEY (down) (R122-R125), by register. -/
def stepRow : Reg → Bool → Option Row
  | .x, true => some ⟨.inx, 0xE8, 2⟩
  | .y, true => some ⟨.iny, 0xC8, 2⟩
  | .x, false => some ⟨.dex, 0xCA, 2⟩
  | .y, false => some ⟨.dey, 0x88, 2⟩
  | .a, _ | .s, _ => none

/-- The unassigned bytes 0x00-0x1F (R67). -/
def unassignedRows0 : List (Byte × Instr) :=
  [(0x02, .illegal02), (0x03, .illegal03), (0x04, .illegal04), (0x07, .illegal07), (0x0B, .illegal0B), (0x0C, .illegal0C),
   (0x0F, .illegal0F), (0x12, .illegal12), (0x13, .illegal13), (0x14, .illegal14), (0x17, .illegal17), (0x1A, .illegal1A),
   (0x1B, .illegal1B), (0x1C, .illegal1C), (0x1F, .illegal1F)]

/-- The unassigned bytes 0x20-0x3F (R67). -/
def unassignedRows1 : List (Byte × Instr) :=
  [(0x22, .illegal22), (0x23, .illegal23), (0x27, .illegal27), (0x2B, .illegal2B), (0x2F, .illegal2F), (0x32, .illegal32),
   (0x33, .illegal33), (0x34, .illegal34), (0x37, .illegal37), (0x3A, .illegal3A), (0x3B, .illegal3B), (0x3C, .illegal3C),
   (0x3F, .illegal3F)]

/-- The unassigned bytes 0x40-0x5F (R67). -/
def unassignedRows2 : List (Byte × Instr) :=
  [(0x42, .illegal42), (0x43, .illegal43), (0x44, .illegal44), (0x47, .illegal47), (0x4B, .illegal4B), (0x4F, .illegal4F),
   (0x52, .illegal52), (0x53, .illegal53), (0x54, .illegal54), (0x57, .illegal57), (0x5A, .illegal5A), (0x5B, .illegal5B),
   (0x5C, .illegal5C), (0x5F, .illegal5F)]

/-- The unassigned bytes 0x60-0x7F (R67). -/
def unassignedRows3 : List (Byte × Instr) :=
  [(0x62, .illegal62), (0x63, .illegal63), (0x64, .illegal64), (0x67, .illegal67), (0x6B, .illegal6B), (0x6F, .illegal6F),
   (0x72, .illegal72), (0x73, .illegal73), (0x74, .illegal74), (0x77, .illegal77), (0x7A, .illegal7A), (0x7B, .illegal7B),
   (0x7C, .illegal7C), (0x7F, .illegal7F)]

/-- The unassigned bytes 0x80-0x9F (R67). -/
def unassignedRows4 : List (Byte × Instr) :=
  [(0x80, .illegal80), (0x82, .illegal82), (0x83, .illegal83), (0x87, .illegal87), (0x89, .illegal89), (0x8B, .illegal8B),
   (0x8F, .illegal8F), (0x92, .illegal92), (0x93, .illegal93), (0x97, .illegal97), (0x9B, .illegal9B), (0x9C, .illegal9C),
   (0x9E, .illegal9E), (0x9F, .illegal9F)]

/-- The unassigned bytes 0xA0-0xBF (R67). -/
def unassignedRows5 : List (Byte × Instr) :=
  [(0xA3, .illegalA3), (0xA7, .illegalA7), (0xAB, .illegalAB), (0xAF, .illegalAF), (0xB2, .illegalB2), (0xB3, .illegalB3),
   (0xB7, .illegalB7), (0xBB, .illegalBB), (0xBF, .illegalBF)]

/-- The unassigned bytes 0xC0-0xDF (R67). -/
def unassignedRows6 : List (Byte × Instr) :=
  [(0xC2, .illegalC2), (0xC3, .illegalC3), (0xC7, .illegalC7), (0xCB, .illegalCB), (0xCF, .illegalCF), (0xD2, .illegalD2),
   (0xD3, .illegalD3), (0xD4, .illegalD4), (0xD7, .illegalD7), (0xDA, .illegalDA), (0xDB, .illegalDB), (0xDC, .illegalDC),
   (0xDF, .illegalDF)]

/-- The unassigned bytes 0xE0-0xFF (R67). -/
def unassignedRows7 : List (Byte × Instr) :=
  [(0xE2, .illegalE2), (0xE3, .illegalE3), (0xE7, .illegalE7), (0xEB, .illegalEB), (0xEF, .illegalEF), (0xF2, .illegalF2),
   (0xF3, .illegalF3), (0xF4, .illegalF4), (0xF7, .illegalF7), (0xFA, .illegalFA), (0xFB, .illegalFB), (0xFC, .illegalFC),
   (0xFF, .illegalFF)]

/-- The 105 unassigned opcode bytes (R67), each with its instruction. -/
def unassignedRows : List (Byte × Instr) :=
  unassignedRows0 ++ unassignedRows1 ++ unassignedRows2 ++ unassignedRows3 ++ unassignedRows4 ++ unassignedRows5 ++ unassignedRows6 ++ unassignedRows7

/-! ### Who writes what (R11, R13, R14, R69) -/

/-- The instructions whose destination is A (R11). -/
def writesA : Instr → Bool
  | .adcImm _ | .adcZp _ | .adcZpx _ | .adcAbs _ | .adcAbsx _ | .adcAbsy _ | .adcIndx _ | .adcIndy _
  | .sbcImm _ | .sbcZp _ | .sbcZpx _ | .sbcAbs _ | .sbcAbsx _ | .sbcAbsy _ | .sbcIndx _ | .sbcIndy _
  | .andImm _ | .andZp _ | .andZpx _ | .andAbs _ | .andAbsx _ | .andAbsy _ | .andIndx _ | .andIndy _
  | .oraImm _ | .oraZp _ | .oraZpx _ | .oraAbs _ | .oraAbsx _ | .oraAbsy _ | .oraIndx _ | .oraIndy _
  | .eorImm _ | .eorZp _ | .eorZpx _ | .eorAbs _ | .eorAbsx _ | .eorAbsy _ | .eorIndx _ | .eorIndy _
  | .ldaImm _ | .ldaZp _ | .ldaZpx _ | .ldaAbs _ | .ldaAbsx _ | .ldaAbsy _ | .ldaIndx _ | .ldaIndy _ | .pla
  | .txa | .tya | .aslAcc | .lsrAcc | .rolAcc | .rorAcc => true
  | _ => false

/-- The instructions that write X (R11). -/
def writesX : Instr → Bool
  | .ldxImm _ | .ldxZp _ | .ldxZpy _ | .ldxAbs _ | .ldxAbsy _ | .tax | .tsx | .inx | .dex => true
  | _ => false

/-- The instructions that write Y (R11). -/
def writesY : Instr → Bool
  | .ldyImm _ | .ldyZp _ | .ldyZpx _ | .ldyAbs _ | .ldyAbsx _ | .tay | .iny | .dey => true
  | _ => false

/-- The instructions that change S (R13). -/
def writesS : Instr → Bool
  | .txs | .pha | .php | .pla | .plp | .jsr _ | .rts | .brk | .rti => true
  | _ => false

/-- The instructions that change I (R14). -/
def writesI : Instr → Bool
  | .sei | .cli | .brk | .plp | .rti => true
  | _ => false

/-- The instructions that change D (R14). -/
def writesD : Instr → Bool
  | .sed | .cld | .plp | .rti => true
  | _ => false

/-- The instructions that change V (R14). -/
def writesV : Instr → Bool
  | .adcImm _ | .adcZp _ | .adcZpx _ | .adcAbs _ | .adcAbsx _ | .adcAbsy _ | .adcIndx _ | .adcIndy _
  | .sbcImm _ | .sbcZp _ | .sbcZpx _ | .sbcAbs _ | .sbcAbsx _ | .sbcAbsy _ | .sbcIndx _ | .sbcIndy _
  | .bitZp _ | .bitAbs _ | .clv | .plp | .rti => true
  | _ => false

/-- The instructions that change C (R14). -/
def writesC : Instr → Bool
  | .adcImm _ | .adcZp _ | .adcZpx _ | .adcAbs _ | .adcAbsx _ | .adcAbsy _ | .adcIndx _ | .adcIndy _
  | .sbcImm _ | .sbcZp _ | .sbcZpx _ | .sbcAbs _ | .sbcAbsx _ | .sbcAbsy _ | .sbcIndx _ | .sbcIndy _
  | .cmpImm _ | .cmpZp _ | .cmpZpx _ | .cmpAbs _ | .cmpAbsx _ | .cmpAbsy _ | .cmpIndx _ | .cmpIndy _
  | .cpxImm _ | .cpxZp _ | .cpxAbs _ | .cpyImm _ | .cpyZp _ | .cpyAbs _ | .aslAcc | .aslZp _ | .aslZpx _
  | .aslAbs _ | .aslAbsx _ | .lsrAcc | .lsrZp _ | .lsrZpx _ | .lsrAbs _ | .lsrAbsx _ | .rolAcc | .rolZp _
  | .rolZpx _ | .rolAbs _ | .rolAbsx _ | .rorAcc | .rorZp _ | .rorZpx _ | .rorAbs _ | .rorAbsx _ | .clc | .sec
  | .plp | .rti => true
  | _ => false

/-- The instructions that change Z and N (R14): those whose destination is A, X or Y, the compares, BIT, the
read-modify-write instructions, PLP and RTI. -/
def writesZN (i : Instr) : Bool :=
  writesA i || writesX i || writesY i ||
  match i with
  | .cmpImm _ | .cmpZp _ | .cmpZpx _ | .cmpAbs _ | .cmpAbsx _ | .cmpAbsy _ | .cmpIndx _ | .cmpIndy _
  | .cpxImm _ | .cpxZp _ | .cpxAbs _ | .cpyImm _ | .cpyZp _ | .cpyAbs _ | .bitZp _ | .bitAbs _
  | .aslZp _ | .aslZpx _ | .aslAbs _ | .aslAbsx _ | .lsrZp _ | .lsrZpx _ | .lsrAbs _ | .lsrAbsx _
  | .rolZp _ | .rolZpx _ | .rolAbs _ | .rolAbsx _ | .rorZp _ | .rorZpx _ | .rorAbs _ | .rorAbsx _
  | .incZp _ | .incZpx _ | .incAbs _ | .incAbsx _ | .decZp _ | .decZpx _ | .decAbs _ | .decAbsx _ | .plp | .rti => true
  | _ => false

/-- The instructions that write a byte of memory: the classes "write" and "read-modify-write" (R69), and the pushes. -/
def writesMemory : Instr → Bool
  | .staZp _ | .staZpx _ | .staAbs _ | .staAbsx _ | .staAbsy _ | .staIndx _ | .staIndy _ | .stxZp _
  | .stxZpy _ | .stxAbs _ | .styZp _ | .styZpx _ | .styAbs _ | .incZp _ | .incZpx _ | .incAbs _ | .incAbsx _
  | .decZp _ | .decZpx _ | .decAbs _ | .decAbsx _ | .aslZp _ | .aslZpx _ | .aslAbs _ | .aslAbsx _ | .lsrZp _
  | .lsrZpx _ | .lsrAbs _ | .lsrAbsx _ | .rolZp _ | .rolZpx _ | .rolAbs _ | .rolAbsx _ | .rorZp _ | .rorZpx _
  | .rorAbs _ | .rorAbsx _ | .pha | .php | .jsr _ | .brk => true
  | _ => false

/-! ### What the statements compute -/

/-- What a shift or rotate by one does to a byte (R114): the result's bits and the bit shifted out. -/
def ShiftedByOne (op : ShiftOp) (v r : Byte) (c cout : Bool) : Prop :=
  match op with
  | .asl => r.toNat = 2 * v.toNat % 256 ∧ cout = v.getLsbD 7
  | .lsr => r.toNat = v.toNat / 2 ∧ cout = v.getLsbD 0
  | .rol => r.toNat = (2 * v.toNat + c.toNat) % 256 ∧ cout = v.getLsbD 7
  | .ror => r.toNat = v.toNat / 2 + 128 * c.toNat ∧ cout = v.getLsbD 0

/-- `n` steps of one instruction, each answering a next state. -/
def ExecTimes (i : Instr) : Nat → State → State → Prop
  | 0, s, t => s = t
  | n + 1, s, t => ∃ u, exec i s = .next u ∧ ExecTimes i n u t

/-- Is the event a bus transaction (R31)? -/
def isTransaction : Event → Bool
  | .read _ _ | .write _ _ => true
  | .tick _ | .outside _ => false

/-- The bus transactions of a trace, newest first. -/
def busTrace (trace : List Event) : List Event := trace.filter isTransaction

/-- How many bus transactions a trace has. -/
def transactions (trace : List Event) : Nat := (busTrace trace).length

end Sys2Proof.Machine
end

