-- ==== Sys2Proof/Certificates/Slice0/Obligations.lean ====
section
/-! DEFINITION. The statements for the provers.  Each docstring names the rules of the spec it formalises; the terms
(`Retired`, `ReadsOperand`, the rows) are those of Safety.lean. -/

open Sys2Proof Sys2Proof.Machine

/-! ### Encoding -/

/-- Decode and encode agree (R50, R51, R66, R67): for every instruction, with every operand, whatever bytes follow. -/
def Obligations.DecodeOfEncode : Prop :=
  ∀ (i : Instr) (rest : List Byte), i.WellFormed = true → decode (encode i ++ rest) = .ok (i, rest)

/-- Each sequence of bytes has one meaning: what was decoded encodes to the bytes it was read from (R50, R51, R66). -/
def Obligations.EncodeOfDecode : Prop :=
  ∀ (bytes rest : List Byte) (i : Instr), decode bytes = .ok (i, rest) → encode i ++ rest = bytes

/-- The decoder never fails on three bytes or more: every opcode byte is an instruction (R67: 151 + 105 = 256), of
1, 2 or 3 bytes (R51). -/
def Obligations.EveryByteDecodes : Prop :=
  ∀ (b0 b1 b2 : Byte) (rest : List Byte), ∃ i tail,
    decode (b0 :: b1 :: b2 :: rest) = .ok (i, tail) ∧ 1 ≤ i.length ∧ i.length ≤ 3 ∧
    (b0 :: b1 :: b2 :: rest).drop i.length = tail

/-- Words written out from the spec's encodings, one of each format (R51, R66, R71). -/
def Obligations.SpecWordsDecode : Prop :=
  decodeTableWord 8 0x18 = some .clc ∧ decodeTableWord 8 0x0A = some .aslAcc ∧
  decodeTableWord 16 0x10A9 = some (.ldaImm 0x10) ∧ decodeTableWord 16 0x10A5 = some (.ldaZp 0x10) ∧
  decodeTableWord 16 0x10B5 = some (.ldaZpx 0x10) ∧ decodeTableWord 16 0x10B6 = some (.ldxZpy 0x10) ∧
  decodeTableWord 24 0x1234AD = some (.ldaAbs 0x1234) ∧ decodeTableWord 24 0x1234BD = some (.ldaAbsx 0x1234) ∧
  decodeTableWord 24 0x1234B9 = some (.ldaAbsy 0x1234) ∧ decodeTableWord 24 0x12346C = some (.jmpInd 0x1234) ∧
  decodeTableWord 16 0x10A1 = some (.ldaIndx 0x10) ∧ decodeTableWord 16 0x10B1 = some (.ldaIndy 0x10) ∧
  decodeTableWord 16 0xFBD0 = some (.bne 0xFB) ∧ decodeTableWord 8 0x02 = some .illegal02

/-- The unassigned bytes are exactly the 105 listed (R67): the list has no repeats, and a byte is in it exactly when
what it decodes to is no assigned instruction. -/
def Obligations.UnassignedBytesAreTheListed : Prop :=
  unassignedRows.length = 105 ∧ (unassignedRows.map Prod.fst).Nodup ∧
  ∀ (op : Byte) (rest tail : List Byte) (i : Instr), decode (op :: rest) = .ok (i, tail) →
    (i.isAssigned = false ↔ (op, i) ∈ unassignedRows)

/-! ### The step -/

/-- A step runs the decoded instruction (R52, R174): in a state ready to fetch, when the bytes at PC decode to a
well-formed `i`, the step is `exec i` of the state after the reads of exactly `i`'s bytes, in ascending address order.
That PC still names the opcode in that state is the model's choice (log 41): the rules advance PC before the operation,
and each meaning writes PC at its end. -/
def Obligations.StepRunsDecodedInstruction : Prop :=
  ∀ (s : State) (i : Instr), s.ReadyToFetch → i.WellFormed = true →
    let r0 := s.memRead s.pc
    let r1 := r0.2.memRead (s.pc + 1)
    let r2 := r1.2.memRead (s.pc + 2)
    (decode [r0.1] = .ok (i, []) → step s = exec i r0.2) ∧
    (decode [r0.1, r1.1] = .ok (i, []) → step s = exec i r1.2) ∧
    (decode [r0.1, r1.1, r2.1] = .ok (i, []) → step s = exec i r2.2)

/-- The host's way to place an instruction (the model's choice, log 42): the next step runs exactly the instruction the
table word decodes to, after the reads of its bytes at 0x8000, with every register but PC as it was. -/
def Obligations.PlacedWordRunsNext : Prop :=
  ∀ (s : State) (nbits w : Nat) (i : Instr), decodeTableWord nbits w = some i →
    ∃ u, step (s.withFetchWord nbits w) = exec i u ∧ u.pc = 0x8000 ∧ RegsKeptExcept [] s u ∧ u.p = s.p ∧
      (∀ k, k < i.length → u.cell (BitVec.ofNat 16 (0x8000 + k)) = (tableBytes nbits w)[k]?) ∧
      u.trace.length = s.trace.length + i.length

/-- The poll (R174, R179): after what the environment did has landed (the script is the model's choice, log 37), a
latched fault stops the step; else a pending NMI is taken, whatever `P.I` is; else the IRQ level, if `P.I` is 0; else
the fetched instruction runs. -/
def Obligations.PollOrder : Prop :=
  ∀ s u : State, s.applyInputs = u →
    (∀ e, u.fault = some e → step s = .fault (.decodeErrorLatched e)) ∧
    (u.fault = none → u.nmiPending = true → step s = .next u.enterNmi) ∧
    (u.fault = none → u.nmiPending = false → u.irqIn = true → u.flag .i = false → step s = .next u.enterIrq) ∧
    (u.fault = none → u.nmiPending = false → (u.irqIn = false ∨ u.flag .i = true) →
      step s = exec u.fetch.1 u.fetch.2)

/-- After any step that is not a fault there is a next step (R205, R33): once the environment's actions have landed, the
one reason for a step to stop is a latched fault; no instruction, no access and no interrupt stops the machine.  That
the stop is an outcome of `step`, and the script of actions, are the model's (log 39, 37). -/
def Obligations.OnlyALatchedFaultStops : Prop :=
  ∀ s : State, (s.applyInputs.fault = none ↔ ∃ t, step s = .next t) ∧
    (∀ r, step s ≠ .refused r)

/-- The fault latch is never cleared except by reset (R18, R170): without a reset among the pending actions a latched
machine has no step; a reset that lands before the step is `reset()` whatever the latch holds, and the step is taken.
The script of actions is the model's choice (log 37). -/
def Obligations.OnlyResetClearsTheFaultLatch : Prop :=
  ∀ s : State,
    (∀ e, s.fault = some e → (∀ now ∈ s.inputs.head?, EnvAction.reset ∉ now) →
      step s = .fault (.decodeErrorLatched e)) ∧
    (∀ later, s.inputs = [.reset] :: later →
      s.applyInputs = ({ s with inputs := later } : State).doReset ∧
      ∃ t, step s = .next t ∧ t.inputs = later)

/-! ### Invariants -/

/-- In the stored byte, bit 5 is always 1 and bit 4 is always 0 (R15): every step keeps it. -/
def Obligations.StepKeepsStatusForm : Prop :=
  ∀ s t : State, StatusForm s.p → step s = .next t → StatusForm t.p

/-- Every step keeps the canonical form of memory, so that equal memories are equal data (R35 for the keys; the list is
the model's choice, log 35). -/
def Obligations.StepKeepsMemoryForm : Prop :=
  ∀ s t : State, s.mem.wf = true → step s = .next t → t.mem.wf = true

/-- Reset establishes the invariant (R15, R190; the memory list is the model's, log 35). -/
def Obligations.ResetMeetsInvariant : Prop := State.reset.Inv

/-! ### Reset -/

/-- `reset()` (R190), from any state, a latched one too: the register values, the latches, PC from the reset vector's
two bytes, low byte first, by exactly two reads and no write; RAM and the IRQ level are not touched; no count is
reported. -/
def Obligations.ResetProcedure : Prop :=
  ∀ s : State,
    let t := s.doReset
    let l := s.busByte 0xFFFC
    let h := ({ s with trace := .read 0xFFFC l :: s.trace } : State).busByte 0xFFFD
    t.a = 0x00 ∧ t.x = 0x00 ∧ t.y = 0x00 ∧ t.sp = 0xFD ∧ t.p = 0x24 ∧ t.nmiPending = false ∧ t.fault = none ∧
    t.pc.toNat = h.toNat * 256 + l.toNat ∧ busTrace t.trace = .read 0xFFFD h :: .read 0xFFFC l :: busTrace s.trace ∧
    t.mem = s.mem ∧ t.irqIn = s.irqIn ∧ t.cycles = none

/-- The state after reset is what `reset()` leaves (R190, R21), and it polls no interrupt: the first step fetches the
opcode at the reset vector's target (R194).  That nothing is listed, recorded or pending before it, that the environment is
the free one and that the IRQ level is low are the model's choices (log 35, 36, 38, 44). -/
def Obligations.ResetState : Prop :=
  State.reset.a = 0x00 ∧ State.reset.x = 0x00 ∧ State.reset.y = 0x00 ∧ State.reset.sp = 0xFD ∧
  State.reset.p = 0x24 ∧ State.reset.nmiPending = false ∧ State.reset.fault = none ∧ State.reset.flag .i = true ∧
  (∀ s : State, s.mem = [] → s.dev = .free → s.trace = [] → s.irqIn = false → s.inputs = [] → s.doReset = State.reset) ∧
  step State.reset = exec State.reset.fetch.1 State.reset.fetch.2

/-! ### Memory and the stack -/

/-- RAM is 2048 bytes mirrored four times (R35): a read returns the last byte written to any mirror, by the CPU or
by an action of the environment, `ram_init`'s where nothing has been; a write changes no other byte of the address space
and nothing else of the machine, a read changes none; neither can fail, and reset leaves RAM alone.  The model's forms:
an unlisted byte is `ram_init`'s (log 35), and each access is recorded in the trace, of which the environment's state
is the part outside RAM (log 34). -/
def Obligations.RamReadAfterWrite : Prop :=
  ∀ (s : State) (a b : Word) (v : Byte), a.toNat < 0x2000 → b.toNat < 0x2000 →
    (s.memWrite a v).busByte b = (if a.toNat % 0x800 = b.toNat % 0x800 then v else s.busByte b) ∧
    (s.cell b = none → s.busByte b = Config.ramInit (b.toNat % 0x800)) ∧
    (s.memRead a).1 = s.busByte a ∧
    (∀ d, (s.memRead a).2.busByte d = s.busByte d ∧ (0x2000 ≤ d.toNat → (s.memWrite a v).busByte d = s.busByte d)) ∧
    (s.memRead a).2 = { s with trace := .read a (s.busByte a) :: s.trace } ∧
    (s.memWrite a v) = { s with mem := (s.memWrite a v).mem, trace := .write a v :: s.trace } ∧
    (s.act (.patchRam (a.setWidth 11) v)).busByte b = (s.memWrite a v).busByte b ∧ s.doReset.busByte b = s.busByte b

/-- Outside RAM an access is the environment's (R33, R37-R39, R41): a write changes nothing of the machine, a read is
answered by a free environment from what it has seen, and each is recorded.  `FlatROM(rom)` (R42) answers 0x00 below
0x8000 and `rom`'s byte from there on, and ignores writes.  The history as the environment's state, and the choice of
environment as a field, are the model's (log 34, 36). -/
def Obligations.DeviceAccessIsTheEnvironments : Prop :=
  ∀ (s : State) (a : Word) (v : Byte), 0x2000 ≤ a.toNat →
    s.memWrite a v = { s with trace := .write a v :: s.trace } ∧
    (s.memRead a).2 = { s with trace := .read a (s.memRead a).1 :: s.trace } ∧
    (s.dev = .free → (s.memRead a).1 = Config.devRead s.history a) ∧
    (∀ rom, s.dev = .flatRom rom → (s.memRead a).1 = (if a.toNat < 0x8000 then 0x00 else romByte rom a) ∧
      ∀ d, 0x2000 ≤ d.toNat → (s.memWrite a v).busByte d = s.busByte d)

/-- The stack (R13): the slot is in page 0x01; `push` writes it and then lowers S, `pull` raises S and then reads,
both modulo 256. -/
def Obligations.PushAndPull : Prop :=
  ∀ (s : State) (v : Byte),
    (stackAddr s.sp).toNat = 0x0100 + s.sp.toNat ∧
    (s.push v).sp.toNat = (s.sp.toNat + 255) % 256 ∧ StoredAt (stackAddr s.sp) v s (s.push v) ∧
    (s.push v).trace = .write (stackAddr s.sp) v :: s.trace ∧
    s.pull.2.sp.toNat = (s.sp.toNat + 1) % 256 ∧ s.pull.1 = s.busByte (stackAddr (s.sp + 1)) ∧
    s.pull.2.trace = .read (stackAddr (s.sp + 1)) s.pull.1 :: s.trace ∧ MemoryKeptExcept [] s s.pull.2

/-- A store is seen by the fetch of the very next instruction (R196): after a store of a one-byte opcode where PC then
points, the next step runs that opcode. -/
def Obligations.StoreIsSeenByNextFetch : Prop :=
  ∀ (r : Reg) (m : Mode) (row : Row) (s t : State) (i : Instr), storeRow r m = some row → s.ReadyToFetch →
    inRam (s.locate m).ea = true → busKey (s.pc + BitVec.ofNat 16 m.length) = busKey (s.locate m).ea →
    opcodeEntry (s.reg r) = .one i → exec row.instr s = .next t → step t = exec i (t.memRead t.pc).2

/-! ### Operand formats -/

/-- ZP, ZPX, ZPY (R56-R58): the sum wraps inside page zero; no access and no page crossing. -/
def Obligations.ZeroPageOperands : Prop :=
  ∀ (b : Byte) (s : State),
    (s.locate (.zp b)).ea.toNat = b.toNat ∧
    (s.locate (.zpx b)).ea.toNat = (b.toNat + s.x.toNat) % 256 ∧
    (s.locate (.zpy b)).ea.toNat = (b.toNat + s.y.toNat) % 256 ∧
    ∀ m ∈ [Mode.zp b, .zpx b, .zpy b], (s.locate m).crossed = false ∧ (s.locate m).st = s ∧ m.length = 2

/-- ABS, ABSX, ABSY (R59-R61): the sum is modulo 65536; `crossed` exactly when the low bytes carry; no access. -/
def Obligations.AbsoluteOperands : Prop :=
  ∀ (b1 b2 : Byte) (s : State),
    let w := mkWord b2 b1
    w.toNat = b2.toNat * 256 + b1.toNat ∧ (s.locate (.abs w)).ea = w ∧ (s.locate (.abs w)).crossed = false ∧
    (s.locate (.absx w)).ea.toNat = (w.toNat + s.x.toNat) % 65536 ∧
    (s.locate (.absy w)).ea.toNat = (w.toNat + s.y.toNat) % 65536 ∧
    ((s.locate (.absx w)).crossed = true ↔ 256 ≤ b1.toNat + s.x.toNat) ∧
    ((s.locate (.absy w)).crossed = true ↔ 256 ≤ b1.toNat + s.y.toNat) ∧
    ∀ m ∈ [Mode.abs w, .absx w, .absy w], (s.locate m).st = s ∧ m.length = 3

/-- INDX, INDY (R63, R64): the pointer's two bytes are read from zero-page RAM, low then high, the second address
wrapping inside page zero; INDY adds Y to the pointer modulo 65536 and crosses when the low byte carries. -/
def Obligations.PointerOperands : Prop :=
  ∀ (b p : Byte) (s : State),
    let lo : Word := BitVec.ofNat 16 p.toNat
    let hi : Word := BitVec.ofNat 16 ((p.toNat + 1) % 256)
    let base := (s.busByte hi).toNat * 256 + (s.busByte lo).toNat
    let reads : List Event := [.read hi (s.busByte hi), .read lo (s.busByte lo)]
    (p.toNat = (b.toNat + s.x.toNat) % 256 →
      (s.locate (.indx b)).ea.toNat = base ∧ (s.locate (.indx b)).crossed = false ∧
      (s.locate (.indx b)).st = { s with trace := reads ++ s.trace }) ∧
    ((s.locate (.indy p)).ea.toNat = (base + s.y.toNat) % 65536 ∧
      ((s.locate (.indy p)).crossed = true ↔ 256 ≤ (s.busByte lo).toNat + s.y.toNat) ∧
      (s.locate (.indy p)).st = { s with trace := reads ++ s.trace })

/-- The value `M` (R55, R69 class "read"): the immediate byte with no access, or exactly one read at the effective
address after the pointer reads. -/
def Obligations.OperandValue : Prop :=
  ∀ (b : Byte) (m : Mode) (s : State),
    (s.operand (.imm b)).val = b ∧ (s.operand (.imm b)).st = s ∧ (s.operand (.imm b)).crossed = false ∧
    (s.operand (.mem m)).val = (s.locate m).st.busByte (s.locate m).ea ∧
    (s.operand (.mem m)).crossed = (s.locate m).crossed ∧
    (s.operand (.mem m)).st.trace =
      .read (s.locate m).ea (s.operand (.mem m)).val :: (s.locate m).st.trace ∧
    { (s.operand (.mem m)).st with trace := s.trace } = s

/-! ### Loads and stores -/

/-- LDA, LDX, LDY (R80-R82), every format: the register holds `M`, Z and N are those of `M`, all else is kept. -/
def Obligations.LoadsCopyOperandToRegister : Prop :=
  ∀ (r : Reg) (src : Source) (row : Row) (s : State), loadRow r src = some row →
    ∃ t, exec row.instr s = .next t ∧ t.reg r = (s.operand src).val ∧ RegsKeptExcept [r] s t ∧
      ZNOf (s.operand src).val t ∧ FlagsKeptExcept [.z, .n] s t ∧ ReadsOperand row src s t

/-- STA, STX, STY (R83-R85), every format: one write of the register at the effective address, which is not read; no
register and no flag changes; a fixed count, whether or not a page is crossed.  Outside RAM the write is the
environment's: it changes no RAM byte, and that it changes none of a `FlatROM`'s bytes either is the model's form of R42
(log 36). -/
def Obligations.StoresWriteRegisterToMemory : Prop :=
  ∀ (r : Reg) (m : Mode) (row : Row) (s : State), storeRow r m = some row →
    ∃ t, exec row.instr s = .next t ∧ row.Encoded m.length ∧ StoredAt (s.locate m).ea (s.reg r) s t ∧
      RegsKeptExcept [] s t ∧ t.p = s.p ∧ LatchesKept s t ∧
      t.pc.toNat = (s.pc.toNat + m.length) % 65536 ∧ t.cycles = some row.base ∧
      t.trace = .tick row.base :: .write (s.locate m).ea (s.reg r) :: (s.locate m).st.trace

/-! ### Transfers and stack -/

/-- TAX, TAY, TXA, TYA, TSX (R90-R94) set Z and N from the value; TXS (R95) touches no flag. -/
def Obligations.TransfersCopyRegister : Prop :=
  ∀ (src dst : Reg) (row : Row) (s : State), transferRow src dst = some row →
    ∃ t, exec row.instr s = .next t ∧ row.Encoded 1 ∧ t.reg dst = s.reg src ∧ RegsKeptExcept [dst] s t ∧
      (dst ≠ .s → ZNOf (s.reg src) t ∧ FlagsKeptExcept [.z, .n] s t) ∧ (dst = .s → t.p = s.p) ∧
      MemoryKeptExcept [] s t ∧ LatchesKept s t ∧ Retired 1 2 [] s t

/-- PHA and PHP (R96, R97): A, or P with bit 4 set (bit 5 is 1 already, R15), goes to the stack; P is not changed. -/
def Obligations.PushesWriteStack : Prop :=
  ∀ s : State,
    (∃ t, exec .pha s = .next t ∧ encode .pha = [0x48] ∧ StoredAt (stackAddr s.sp) s.a s t ∧ t.sp = s.sp - 1 ∧
      RegsKeptExcept [.s] s t ∧ t.p = s.p ∧ LatchesKept s t ∧ Retired 1 3 [.write (stackAddr s.sp) s.a] s t) ∧
    (∃ t, exec .php s = .next t ∧ encode .php = [0x08] ∧ StoredAt (stackAddr s.sp) (s.p ||| 0x10) s t ∧
      t.sp = s.sp - 1 ∧ RegsKeptExcept [.s] s t ∧ t.p = s.p ∧ LatchesKept s t ∧
      Retired 1 3 [.write (stackAddr s.sp) (s.p ||| 0x10)] s t)

/-- PLA and PLP (R98, R99): A with Z and N, or the six flags with bits 5 and 4 forced, from the stack. -/
def Obligations.PullsReadStack : Prop :=
  ∀ s : State,
    let slot := stackAddr (s.sp + 1)
    let m := s.busByte slot
    (∃ t, exec .pla s = .next t ∧ encode .pla = [0x68] ∧ t.a = m ∧ t.sp = s.sp + 1 ∧ RegsKeptExcept [.a, .s] s t ∧
      ZNOf m t ∧ FlagsKeptExcept [.z, .n] s t ∧ MemoryKeptExcept [] s t ∧ LatchesKept s t ∧
      Retired 1 4 [.read slot m] s t) ∧
    (∃ t, exec .plp s = .next t ∧ encode .plp = [0x28] ∧ StatusForm t.p ∧ (∀ f, t.flag f = getFlag f m) ∧
      t.p = (m &&& 0xCF) ||| 0x20 ∧ t.sp = s.sp + 1 ∧ RegsKeptExcept [.s] s t ∧ MemoryKeptExcept [] s t ∧
      LatchesKept s t ∧ Retired 1 4 [.read slot m] s t)

/-- PHA then PLA leaves A and S; PHP then PLP leaves P and S, P being in its stored form (R96-R99). -/
def Obligations.PushThenPullRestores : Prop :=
  ∀ s : State,
    (∃ t u, exec .pha s = .next t ∧ exec .pla t = .next u ∧ u.a = s.a ∧ u.sp = s.sp ∧ ZNOf s.a u) ∧
    (StatusForm s.p → ∃ t u, exec .php s = .next t ∧ exec .plp t = .next u ∧ u.p = s.p ∧ u.sp = s.sp)

/-! ### Arithmetic and compare -/

/-- The adder and the subtracter (R100): exact sum and carry; signed overflow exactly outside -128..127; after a
subtraction C is "no borrow". -/
def Obligations.AdderIsExact : Prop :=
  ∀ (a m : Byte) (c : Bool),
    (add8 a m c).r.toNat + 256 * (add8 a m c).cout.toNat = a.toNat + m.toNat + c.toNat ∧
    ((add8 a m c).v = true ↔ ¬ (-128 ≤ a.toInt + m.toInt + c.toNat ∧ a.toInt + m.toInt + c.toNat ≤ 127)) ∧
    (sub8 a m c).r = a - m - (if c then 0 else 1) ∧
    ((sub8 a m c).cout = true ↔ m.toNat + (1 - c.toNat) ≤ a.toNat) ∧
    ((sub8 a m c).v = true ↔
      ¬ (-128 ≤ a.toInt - m.toInt - (1 - c.toNat : Int) ∧ a.toInt - m.toInt - (1 - c.toNat : Int) ≤ 127))

/-- ADC (R101), every format: `A + M + C` modulo 256, carry, signed overflow, Z and N; I and D kept, D not read. -/
def Obligations.AdcAddsWithCarry : Prop :=
  ∀ (src : Source) (row : Row) (s : State), adcRow src = some row →
    let m := (s.operand src).val
    let sum := s.a.toNat + m.toNat + (s.flag .c).toNat
    ∃ t, exec row.instr s = .next t ∧ t.a.toNat = sum % 256 ∧ t.flag .c = decide (256 ≤ sum) ∧
      (t.flag .v = true ↔ ¬ (-128 ≤ s.a.toInt + m.toInt + (s.flag .c).toNat ∧
        s.a.toInt + m.toInt + (s.flag .c).toNat ≤ 127)) ∧ ZNOf t.a t ∧ FlagsKeptExcept [.n, .v, .z, .c] s t ∧
      RegsKeptExcept [.a] s t ∧ ReadsOperand row src s t

/-- SBC (R102), every format: `A - M - (1 - C)` modulo 256, C as "no borrow", signed overflow, Z and N; D not read. -/
def Obligations.SbcSubtractsWithBorrow : Prop :=
  ∀ (src : Source) (row : Row) (s : State), sbcRow src = some row →
    let m := (s.operand src).val
    ∃ t, exec row.instr s = .next t ∧ t.a = s.a - m - (if s.flag .c then 0 else 1) ∧
      t.flag .c = decide (m.toNat + (1 - (s.flag .c).toNat) ≤ s.a.toNat) ∧
      (t.flag .v = true ↔ ¬ (-128 ≤ s.a.toInt - m.toInt - (1 - (s.flag .c).toNat : Int) ∧
        s.a.toInt - m.toInt - (1 - (s.flag .c).toNat : Int) ≤ 127)) ∧ ZNOf t.a t ∧ FlagsKeptExcept [.n, .v, .z, .c] s t ∧
      RegsKeptExcept [.a] s t ∧ ReadsOperand row src s t

/-- CMP, CPX, CPY (R103-R106), every format: C iff R >= M, Z iff R = M, N bit 7 of the difference; V and the incoming C
play no part; no register changes. -/
def Obligations.ComparesSetFlagsOnly : Prop :=
  ∀ (r : Reg) (src : Source) (row : Row) (s : State), compareRow r src = some row →
    let m := (s.operand src).val
    ∃ t, exec row.instr s = .next t ∧ t.flag .c = decide (m.toNat ≤ (s.reg r).toNat) ∧
      t.flag .z = decide (s.reg r = m) ∧ t.flag .n = (s.reg r - m).getLsbD 7 ∧
      FlagsKeptExcept [.n, .z, .c] s t ∧ RegsKeptExcept [] s t ∧ ReadsOperand row src s t

/-! ### Logic, bit test, shifts and rotates -/

/-- AND, ORA, EOR (R110-R112), every format. -/
def Obligations.LogicCombinesAccumulator : Prop :=
  ∀ (src : Source) (row : Row) (s : State) (f : Byte → Byte → Byte),
    (andRow src = some row ∧ f = (· &&& ·)) ∨ (oraRow src = some row ∧ f = (· ||| ·)) ∨
      (eorRow src = some row ∧ f = (· ^^^ ·)) →
    ∃ t, exec row.instr s = .next t ∧ t.a = f s.a (s.operand src).val ∧ ZNOf t.a t ∧
      FlagsKeptExcept [.z, .n] s t ∧ RegsKeptExcept [.a] s t ∧ ReadsOperand row src s t

/-- BIT (R113): Z from `A & M`, N and V are bits 7 and 6 of `M` whatever A is; A is unchanged. -/
def Obligations.BitTestsMemory : Prop :=
  ∀ (src : Source) (row : Row) (s : State), bitRow src = some row →
    let m := (s.operand src).val
    ∃ t, exec row.instr s = .next t ∧ t.flag .z = decide (s.a &&& m = 0) ∧ t.flag .n = m.getLsbD 7 ∧
      t.flag .v = m.getLsbD 6 ∧ FlagsKeptExcept [.z, .n, .v] s t ∧ RegsKeptExcept [] s t ∧ ReadsOperand row src s t

/-- ASL, LSR, ROL, ROR (R114-R118).  Format ACC: of A, no memory access.  Memory formats: one read and one write at the
effective address, A not touched, a fixed count.  Outside RAM the write is the environment's: it changes no RAM byte,
and that it changes none of a `FlatROM`'s bytes either is the model's form of R42 (log 36). -/
def Obligations.ShiftsMoveOneBit : Prop :=
  ∀ (op : ShiftOp) (s : State),
    (∃ t, exec (shiftAccRow op).instr s = .next t ∧ (shiftAccRow op).Encoded 1 ∧
      ShiftedByOne op s.a t.a (s.flag .c) (t.flag .c) ∧ ZNOf t.a t ∧ FlagsKeptExcept [.n, .z, .c] s t ∧
      RegsKeptExcept [.a] s t ∧ MemoryKeptExcept [] s t ∧ LatchesKept s t ∧ Retired 1 2 [] s t) ∧
    ∀ (m : Mode) (row : Row), shiftRow op m = some row →
      let ea := (s.locate m).ea
      let v := (s.locate m).st.busByte ea
      ∃ t r, exec row.instr s = .next t ∧ row.Encoded m.length ∧ ShiftedByOne op v r (s.flag .c) (t.flag .c) ∧
        StoredAt ea r s t ∧ ZNOf r t ∧ FlagsKeptExcept [.n, .z, .c] s t ∧ RegsKeptExcept [] s t ∧ LatchesKept s t ∧
        t.pc.toNat = (s.pc.toNat + m.length) % 65536 ∧ t.cycles = some row.base ∧
        t.trace = .tick row.base :: .write ea r :: .read ea v :: (s.locate m).st.trace

/-- A rotate of A through C is a rotation of nine bits (R117): nine of them restore A and C. -/
def Obligations.NineRotatesRestore : Prop :=
  ∀ s : State, (∃ t, ExecTimes .rolAcc 9 s t ∧ t.a = s.a ∧ t.flag .c = s.flag .c) ∧
    (∃ t, ExecTimes .rorAcc 9 s t ∧ t.a = s.a ∧ t.flag .c = s.flag .c)

/-! ### Increment and decrement -/

/-- INC and DEC (R120, R121), every format: one read and one write at the effective address, Z and N, neither C nor V.
In RAM the byte at the effective address is then one more or less; outside RAM the write is the environment's: it
changes no RAM byte, and that it changes none of a `FlatROM`'s bytes either is the model's form of R42 (log 36). -/
def Obligations.IncDecOfMemory : Prop :=
  ∀ (up : Bool) (m : Mode) (row : Row) (s : State), (if up then incRow m else decRow m) = some row →
    let ea := (s.locate m).ea
    let v := (s.locate m).st.busByte ea
    ∃ t r, exec row.instr s = .next t ∧ row.Encoded m.length ∧
      r.toNat = (v.toNat + (if up then 1 else 255)) % 256 ∧ StoredAt ea r s t ∧ ZNOf r t ∧
      FlagsKeptExcept [.z, .n] s t ∧ RegsKeptExcept [] s t ∧ LatchesKept s t ∧
      t.pc.toNat = (s.pc.toNat + m.length) % 65536 ∧ t.cycles = some row.base ∧
      t.trace = .tick row.base :: .write ea r :: .read ea v :: (s.locate m).st.trace

/-- INX, INY, DEX, DEY (R122-R125): modulo 256, Z and N, neither C nor V. -/
def Obligations.IncDecOfRegister : Prop :=
  ∀ (r : Reg) (up : Bool) (row : Row) (s : State), stepRow r up = some row →
    ∃ t, exec row.instr s = .next t ∧ row.Encoded 1 ∧
      (t.reg r).toNat = ((s.reg r).toNat + (if up then 1 else 255)) % 256 ∧ RegsKeptExcept [r] s t ∧
      ZNOf (t.reg r) t ∧ FlagsKeptExcept [.z, .n] s t ∧ MemoryKeptExcept [] s t ∧ LatchesKept s t ∧
      Retired 1 2 [] s t

/-! ### Control transfer -/

/-- JMP (R130, R62): ABS goes to its operand; IND reads the target through the pointer, low byte first, the high byte
from the same page as the low byte; nothing else changes. -/
def Obligations.JumpsSetPc : Prop :=
  ∀ (w : Word) (s : State),
    (∃ t, exec (.jmpAbs w) s = .next t ∧ (encode (.jmpAbs w)).head? = some 0x4C ∧ t.pc = w ∧ t.cycles = some 3 ∧
      t.trace = .tick 3 :: s.trace ∧ RegsKeptExcept [] s t ∧ t.p = s.p ∧ MemoryKeptExcept [] s t ∧ LatchesKept s t) ∧
    (let hiAddr : Word := BitVec.ofNat 16 (w.toNat / 256 * 256 + (w.toNat + 1) % 256)
     let l := s.busByte w
     let h := ({ s with trace := .read w l :: s.trace } : State).busByte hiAddr
     ∃ t, exec (.jmpInd w) s = .next t ∧ (encode (.jmpInd w)).head? = some 0x6C ∧
      t.pc.toNat = h.toNat * 256 + l.toNat ∧ t.cycles = some 5 ∧
      t.trace = .tick 5 :: .read hiAddr h :: .read w l :: s.trace ∧
      RegsKeptExcept [] s t ∧ t.p = s.p ∧ MemoryKeptExcept [] s t ∧ LatchesKept s t)

/-- JSR (R131): the address of its own last byte goes to the stack, high byte first, and PC to the operand. -/
def Obligations.JsrPushesReturnAddress : Prop :=
  ∀ (w : Word) (s : State),
    let ret := s.pc + 2
    let w0 := stackAddr s.sp
    let w1 := stackAddr (s.sp - 1)
    ∃ t, exec (.jsr w) s = .next t ∧ encode (.jsr w) = [0x20, loByte w, hiByte w] ∧ t.pc = w ∧
      t.busByte w0 = hiByte ret ∧ t.busByte w1 = loByte ret ∧ t.sp = s.sp - 2 ∧ RegsKeptExcept [.s] s t ∧
      t.p = s.p ∧ MemoryKeptExcept [w0, w1] s t ∧ LatchesKept s t ∧ t.cycles = some 6 ∧
      t.trace = .tick 6 :: .write w1 (loByte ret) :: .write w0 (hiByte ret) :: s.trace

/-- RTS (R132): the two pulled bytes, low first, plus 1 modulo 65536. -/
def Obligations.RtsPullsReturnAddress : Prop :=
  ∀ s : State,
    let w0 := stackAddr (s.sp + 1)
    let w1 := stackAddr (s.sp + 2)
    ∃ t, exec .rts s = .next t ∧ encode .rts = [0x60] ∧
      t.pc.toNat = ((s.busByte w1).toNat * 256 + (s.busByte w0).toNat + 1) % 65536 ∧ t.sp = s.sp + 2 ∧
      RegsKeptExcept [.s] s t ∧ t.p = s.p ∧ MemoryKeptExcept [] s t ∧ LatchesKept s t ∧ t.cycles = some 6 ∧
      t.trace = .tick 6 :: .read w1 (s.busByte w1) :: .read w0 (s.busByte w0) :: s.trace

/-- JSR to an RTS returns to the byte after the JSR with S unchanged (R131, R132). -/
def Obligations.CallThenReturn : Prop :=
  ∀ (w : Word) (s : State), ∃ t u, exec (.jsr w) s = .next t ∧ exec .rts t = .next u ∧ u.pc = s.pc + 3 ∧
    u.sp = s.sp ∧ RegsKeptExcept [] s u ∧ u.p = s.p

/-- The eight conditional branches (R133-R141): the flag decides; the target is relative to the next instruction, modulo
65536; 2 cycles not taken, 3 taken, 4 taken to another page. -/
def Obligations.BranchesTestOneFlag : Prop :=
  ∀ (f : Flag) (want : Bool) (b : Byte) (row : Row) (s : State), branchRow f want b = some row →
    let next := (s.pc.toNat + 2) % 65536
    let target := (((next : Int) + b.toInt) % 65536).toNat
    ∃ t, exec row.instr s = .next t ∧ encode row.instr = [row.opcode, b] ∧
      (s.flag f = want → t.pc.toNat = target ∧
        t.cycles = some (if target / 256 = next / 256 then 3 else 4)) ∧
      (s.flag f ≠ want → t.pc.toNat = next ∧ t.cycles = some row.base ∧ row.base = 2) ∧
      (∃ n, t.cycles = some n ∧ t.trace = .tick n :: s.trace) ∧
      RegsKeptExcept [] s t ∧ t.p = s.p ∧ MemoryKeptExcept [] s t ∧ LatchesKept s t

/-! ### Flags, no-operation, BRK, RTI -/

/-- CLC, SEC, CLI, SEI, CLV, CLD, SED (R150-R156): one flag, nothing else. -/
def Obligations.FlagInstructionsWriteOneFlag : Prop :=
  ∀ (f : Flag) (b : Bool) (row : Row) (s : State), flagRow f b = some row →
    ∃ t, exec row.instr s = .next t ∧ row.Encoded 1 ∧ t.flag f = b ∧ FlagsKeptExcept [f] s t ∧
      RegsKeptExcept [] s t ∧ MemoryKeptExcept [] s t ∧ LatchesKept s t ∧ Retired 1 2 [] s t

/-- NOP (R157) changes nothing but PC and performs no bus transaction of its own. -/
def Obligations.NopChangesOnlyPc : Prop :=
  ∀ s : State, encode .nop = [0xEA] ∧
    exec .nop s = .next { s with pc := s.pc + 1, cycles := some 2, trace := .tick 2 :: s.trace }

/-- BRK (R158): taken whatever `P.I` is; the address after the padding byte and the status byte with bit 4 set (bit 5
is 1 already, R15) go to the stack; the handler's address is in 0xFFFE. -/
def Obligations.BrkTakesSoftwareInterrupt : Prop :=
  ∀ s : State, encode .brk = [0x00] ∧
    ∃ t, exec .brk s = .next t ∧ ExceptionTaken (s.pc + 2) (s.p ||| 0x10) 0xFFFE s t ∧ LatchesKept s t

/-- RTI (R159): P with bits 5 and 4 forced, then PC low, then PC high, with no + 1; `nmi_pending` is not touched. -/
def Obligations.RtiRestoresStatusAndPc : Prop :=
  ∀ s : State,
    let w0 := stackAddr (s.sp + 1)
    let w1 := stackAddr (s.sp + 2)
    let w2 := stackAddr (s.sp + 3)
    ∃ t, exec .rti s = .next t ∧ encode .rti = [0x40] ∧ t.p = (s.busByte w0 &&& 0xCF) ||| 0x20 ∧ StatusForm t.p ∧
      (∀ f, t.flag f = getFlag f (s.busByte w0)) ∧
      t.pc.toNat = (s.busByte w2).toNat * 256 + (s.busByte w1).toNat ∧ t.sp = s.sp + 3 ∧
      RegsKeptExcept [.s] s t ∧ MemoryKeptExcept [] s t ∧ LatchesKept s t ∧ t.cycles = some 6 ∧
      t.trace = .tick 6 :: .read w2 (s.busByte w2) :: .read w1 (s.busByte w1) :: .read w0 (s.busByte w0) :: s.trace

/-! ### Unassigned opcodes -/

/-- Each of the 105 unassigned bytes (R160): the latch records the byte and its address, no count is reported, nothing
else changes, PC stays; there is no further step.  In a state ready to fetch, a step that reads such a byte at PC reads
nothing else and does exactly this. -/
def Obligations.UnassignedOpcodesLatchDecodeError : Prop :=
  ∀ (op : Byte) (i : Instr), (op, i) ∈ unassignedRows → ∀ s : State, encode i = [op] ∧
    (∃ t, exec i s = .next t ∧ t = { s with fault := some ⟨op, s.pc⟩, cycles := none } ∧
      (t.inputs = [] → step t = .fault (.decodeErrorLatched ⟨op, s.pc⟩))) ∧
    (s.ReadyToFetch → s.busByte s.pc = op →
      step s = .next { s with fault := some ⟨op, s.pc⟩, cycles := none, trace := .read s.pc op :: s.trace })

/-! ### Interrupts -/

/-- NMI entry (R175, R176): with the latch set, whatever `P.I` and the IRQ level are; the latch is cleared. -/
def Obligations.NmiEntryStep : Prop :=
  ∀ s : State, s.inputs = [] → s.fault = none → s.nmiPending = true →
    ∃ t, step s = .next t ∧ ExceptionTaken s.pc s.p 0xFFFA s t ∧ t.nmiPending = false ∧ t.fault = none ∧
      t.irqIn = s.irqIn ∧ t.inputs = []

/-- IRQ entry (R177, R176): with no NMI, the level high and `P.I` = 0; the level is not changed. -/
def Obligations.IrqEntryStep : Prop :=
  ∀ s : State, s.inputs = [] → s.fault = none → s.nmiPending = false → s.irqIn = true → s.flag .i = false →
    ∃ t, step s = .next t ∧ ExceptionTaken s.pc s.p 0xFFFE s t ∧ LatchesKept s t

/-- A change of I by CLI, SEI, PLP or RTI is seen by the poll of the very next step (R197): with the IRQ level high the
IRQ is taken at once if I is now 0, before another instruction is fetched, and is not taken if I is now 1. -/
def Obligations.StatusWritesTakeEffectAtNextPoll : Prop :=
  ∀ (i : Instr) (s : State), i ∈ [Instr.cli, .sei, .plp, .rti] →
    s.inputs = [] → s.fault = none → s.nmiPending = false → s.irqIn = true →
    ∃ t, exec i s = .next t ∧
      (t.flag .i = false → ∃ u, step t = .next u ∧ ExceptionTaken t.pc t.p 0xFFFE t u) ∧
      (t.flag .i = true → step t = exec t.fetch.1 t.fetch.2)

/-- RTI resumes exactly (R180, R181, R159): after an interrupt entry at the interrupted instruction, after BRK behind its
padding byte, with P, S and the registers as they were, P being in its stored form (R15). -/
def Obligations.RtiResumesAfterEntry : Prop :=
  ∀ (s : State) (vec : Word), StatusForm s.p →
    (∃ t, exec .rti (s.interruptEntry vec) = .next t ∧ t.pc = s.pc ∧ t.p = s.p ∧ RegsKeptExcept [] s t) ∧
    (∃ t u, exec .brk s = .next t ∧ exec .rti t = .next u ∧ u.pc = s.pc + 2 ∧ u.p = s.p ∧ RegsKeptExcept [] s u)

/-! ### Whole-machine rules -/

/-- Which instruction writes which register (R11, R13): every other instruction leaves it. -/
def Obligations.OnlyNamedInstructionsWriteRegisters : Prop :=
  ∀ (i : Instr) (s t : State), exec i s = .next t →
    (writesA i = false → t.a = s.a) ∧ (writesX i = false → t.x = s.x) ∧ (writesY i = false → t.y = s.y) ∧
    (writesS i = false → t.sp = s.sp)

/-- Which instruction writes which flag (R14): every other instruction leaves it; bits 5 and 4 are written by PLP and RTI
alone. -/
def Obligations.OnlyNamedInstructionsWriteFlags : Prop :=
  ∀ (i : Instr) (s t : State), exec i s = .next t →
    (writesI i = false → t.flag .i = s.flag .i) ∧ (writesD i = false → t.flag .d = s.flag .d) ∧
    (writesV i = false → t.flag .v = s.flag .v) ∧ (writesC i = false → t.flag .c = s.flag .c) ∧
    (writesZN i = false → t.flag .z = s.flag .z ∧ t.flag .n = s.flag .n) ∧
    (i ≠ .plp → i ≠ .rti → t.p.getLsbD 5 = s.p.getLsbD 5 ∧ t.p.getLsbD 4 = s.p.getLsbD 4)

/-- Only stores, read-modify-write instructions and pushes write memory (R69); no instruction touches the NMI latch, the
IRQ level, the script or the choice of environment (log 36, 37), and only an unassigned opcode touches the fault latch
(R17-R19). -/
def Obligations.OnlyNamedInstructionsWriteMemory : Prop :=
  ∀ (i : Instr) (s t : State), exec i s = .next t →
    (writesMemory i = false → MemoryKeptExcept [] s t) ∧ t.dev = s.dev ∧ t.nmiPending = s.nmiPending ∧ t.irqIn = s.irqIn ∧
    t.inputs = s.inputs ∧ (i.isAssigned = true → t.fault = s.fault)

/-- Every assigned instruction reports between 2 and 7 cycles (R201), and tells the environment (the model's form, log
40). -/
def Obligations.CycleCountsAreTwoToSeven : Prop :=
  ∀ (i : Instr) (s t : State), i.isAssigned = true → exec i s = .next t →
    ∃ n, t.cycles = some n ∧ 2 ≤ n ∧ n ≤ 7 ∧ t.trace.head? = some (.tick n)

/-- The bus transactions of a step never exceed the count it reports (R69, R201), its fetch included, nor 6; they are
those of the trace the model keeps (log 34). -/
def Obligations.TransactionsWithinCycles : Prop :=
  ∀ (s t : State) (n : Nat), s.inputs = [] → step s = .next t → t.cycles = some n →
    transactions t.trace ≤ transactions s.trace + n ∧ transactions t.trace ≤ transactions s.trace + 6

/-- No register, flag or memory value depends on the cycle count (R200): a step is the same whatever count stands in the
output. -/
def Obligations.CycleCountIsOutputOnly : Prop :=
  ∀ (s : State) (c : Option Nat), step { s with cycles := c } = step s

/-- Accesses to RAM, to page zero and the stack among them, have no side effect and are invisible to the environment
(R35, R36, R48): two machines that differ only in the RAM accesses on record make the same step, whatever it reads
outside RAM, and differ afterwards only in those.  The record is the model's (log 34). -/
def Obligations.RamAccessesAreInvisible : Prop :=
  ∀ s s' : State, s' = { s with trace := s'.trace } → s'.history = s.history →
    (∀ t, step s = .next t → ∃ t', step s' = .next t' ∧ t' = { t with trace := t'.trace } ∧ t'.history = t.history) ∧
    (∀ f, step s = .fault f → step s' = .fault f)
end

