-- ==== Sys2Proof/Laws/State.lean ====
section
/-! SUPPORT. One lemma for each field and each named update of State, so that no proof unfolds a record update. -/

namespace Sys2Proof.Machine

variable (s : State)

@[simp] theorem State.setFlag_a (f : Flag) (b : Bool) : (s.setFlag f b).a = s.a := rfl
@[simp] theorem State.setFlag_x (f : Flag) (b : Bool) : (s.setFlag f b).x = s.x := rfl
@[simp] theorem State.setFlag_y (f : Flag) (b : Bool) : (s.setFlag f b).y = s.y := rfl
@[simp] theorem State.setFlag_sp (f : Flag) (b : Bool) : (s.setFlag f b).sp = s.sp := rfl
@[simp] theorem State.setFlag_pc (f : Flag) (b : Bool) : (s.setFlag f b).pc = s.pc := rfl
@[simp] theorem State.setFlag_p (f : Flag) (b : Bool) : (s.setFlag f b).p = putFlag f b s.p := rfl
@[simp] theorem State.setFlag_nmiPending (f : Flag) (b : Bool) : (s.setFlag f b).nmiPending = s.nmiPending := rfl
@[simp] theorem State.setFlag_fault (f : Flag) (b : Bool) : (s.setFlag f b).fault = s.fault := rfl
@[simp] theorem State.setFlag_irqIn (f : Flag) (b : Bool) : (s.setFlag f b).irqIn = s.irqIn := rfl
@[simp] theorem State.setFlag_cycles (f : Flag) (b : Bool) : (s.setFlag f b).cycles = s.cycles := rfl
@[simp] theorem State.setFlag_mem (f : Flag) (b : Bool) : (s.setFlag f b).mem = s.mem := rfl
@[simp] theorem State.setFlag_dev (f : Flag) (b : Bool) : (s.setFlag f b).dev = s.dev := rfl
@[simp] theorem State.setFlag_trace (f : Flag) (b : Bool) : (s.setFlag f b).trace = s.trace := rfl
@[simp] theorem State.setFlag_inputs (f : Flag) (b : Bool) : (s.setFlag f b).inputs = s.inputs := rfl

@[simp] theorem State.setZN_a (v : Byte) : (s.setZN v).a = s.a := rfl
@[simp] theorem State.setZN_x (v : Byte) : (s.setZN v).x = s.x := rfl
@[simp] theorem State.setZN_y (v : Byte) : (s.setZN v).y = s.y := rfl
@[simp] theorem State.setZN_sp (v : Byte) : (s.setZN v).sp = s.sp := rfl
@[simp] theorem State.setZN_pc (v : Byte) : (s.setZN v).pc = s.pc := rfl
@[simp] theorem State.setZN_p (v : Byte) : (s.setZN v).p = putZN v s.p := rfl
@[simp] theorem State.setZN_nmiPending (v : Byte) : (s.setZN v).nmiPending = s.nmiPending := rfl
@[simp] theorem State.setZN_fault (v : Byte) : (s.setZN v).fault = s.fault := rfl
@[simp] theorem State.setZN_irqIn (v : Byte) : (s.setZN v).irqIn = s.irqIn := rfl
@[simp] theorem State.setZN_cycles (v : Byte) : (s.setZN v).cycles = s.cycles := rfl
@[simp] theorem State.setZN_mem (v : Byte) : (s.setZN v).mem = s.mem := rfl
@[simp] theorem State.setZN_dev (v : Byte) : (s.setZN v).dev = s.dev := rfl
@[simp] theorem State.setZN_trace (v : Byte) : (s.setZN v).trace = s.trace := rfl
@[simp] theorem State.setZN_inputs (v : Byte) : (s.setZN v).inputs = s.inputs := rfl

@[simp] theorem State.setStatus_a (m : Byte) : (s.setStatus m).a = s.a := rfl
@[simp] theorem State.setStatus_x (m : Byte) : (s.setStatus m).x = s.x := rfl
@[simp] theorem State.setStatus_y (m : Byte) : (s.setStatus m).y = s.y := rfl
@[simp] theorem State.setStatus_sp (m : Byte) : (s.setStatus m).sp = s.sp := rfl
@[simp] theorem State.setStatus_pc (m : Byte) : (s.setStatus m).pc = s.pc := rfl
@[simp] theorem State.setStatus_p (m : Byte) : (s.setStatus m).p = statusFromPulled m := rfl
@[simp] theorem State.setStatus_nmiPending (m : Byte) : (s.setStatus m).nmiPending = s.nmiPending := rfl
@[simp] theorem State.setStatus_fault (m : Byte) : (s.setStatus m).fault = s.fault := rfl
@[simp] theorem State.setStatus_irqIn (m : Byte) : (s.setStatus m).irqIn = s.irqIn := rfl
@[simp] theorem State.setStatus_cycles (m : Byte) : (s.setStatus m).cycles = s.cycles := rfl
@[simp] theorem State.setStatus_mem (m : Byte) : (s.setStatus m).mem = s.mem := rfl
@[simp] theorem State.setStatus_dev (m : Byte) : (s.setStatus m).dev = s.dev := rfl
@[simp] theorem State.setStatus_trace (m : Byte) : (s.setStatus m).trace = s.trace := rfl
@[simp] theorem State.setStatus_inputs (m : Byte) : (s.setStatus m).inputs = s.inputs := rfl

@[simp] theorem State.note_a (e : Event) : (s.note e).a = s.a := rfl
@[simp] theorem State.note_x (e : Event) : (s.note e).x = s.x := rfl
@[simp] theorem State.note_y (e : Event) : (s.note e).y = s.y := rfl
@[simp] theorem State.note_sp (e : Event) : (s.note e).sp = s.sp := rfl
@[simp] theorem State.note_pc (e : Event) : (s.note e).pc = s.pc := rfl
@[simp] theorem State.note_p (e : Event) : (s.note e).p = s.p := rfl
@[simp] theorem State.note_nmiPending (e : Event) : (s.note e).nmiPending = s.nmiPending := rfl
@[simp] theorem State.note_fault (e : Event) : (s.note e).fault = s.fault := rfl
@[simp] theorem State.note_irqIn (e : Event) : (s.note e).irqIn = s.irqIn := rfl
@[simp] theorem State.note_cycles (e : Event) : (s.note e).cycles = s.cycles := rfl
@[simp] theorem State.note_mem (e : Event) : (s.note e).mem = s.mem := rfl
@[simp] theorem State.note_dev (e : Event) : (s.note e).dev = s.dev := rfl
@[simp] theorem State.note_trace (e : Event) : (s.note e).trace = e :: s.trace := rfl
@[simp] theorem State.note_inputs (e : Event) : (s.note e).inputs = s.inputs := rfl

@[simp] theorem State.memWrite_a (ad : Word) (v : Byte) : (s.memWrite ad v).a = s.a := rfl
@[simp] theorem State.memWrite_x (ad : Word) (v : Byte) : (s.memWrite ad v).x = s.x := rfl
@[simp] theorem State.memWrite_y (ad : Word) (v : Byte) : (s.memWrite ad v).y = s.y := rfl
@[simp] theorem State.memWrite_sp (ad : Word) (v : Byte) : (s.memWrite ad v).sp = s.sp := rfl
@[simp] theorem State.memWrite_pc (ad : Word) (v : Byte) : (s.memWrite ad v).pc = s.pc := rfl
@[simp] theorem State.memWrite_p (ad : Word) (v : Byte) : (s.memWrite ad v).p = s.p := rfl
@[simp] theorem State.memWrite_nmiPending (ad : Word) (v : Byte) : (s.memWrite ad v).nmiPending = s.nmiPending := rfl
@[simp] theorem State.memWrite_fault (ad : Word) (v : Byte) : (s.memWrite ad v).fault = s.fault := rfl
@[simp] theorem State.memWrite_irqIn (ad : Word) (v : Byte) : (s.memWrite ad v).irqIn = s.irqIn := rfl
@[simp] theorem State.memWrite_cycles (ad : Word) (v : Byte) : (s.memWrite ad v).cycles = s.cycles := rfl
@[simp] theorem State.memWrite_mem (ad : Word) (v : Byte) : (s.memWrite ad v).mem = if inRam ad then s.mem.set (busKey ad) v else s.mem := rfl
@[simp] theorem State.memWrite_dev (ad : Word) (v : Byte) : (s.memWrite ad v).dev = s.dev := rfl
@[simp] theorem State.memWrite_trace (ad : Word) (v : Byte) : (s.memWrite ad v).trace = .write ad v :: s.trace := rfl
@[simp] theorem State.memWrite_inputs (ad : Word) (v : Byte) : (s.memWrite ad v).inputs = s.inputs := rfl

@[simp] theorem State.push_a (v : Byte) : (s.push v).a = s.a := rfl
@[simp] theorem State.push_x (v : Byte) : (s.push v).x = s.x := rfl
@[simp] theorem State.push_y (v : Byte) : (s.push v).y = s.y := rfl
@[simp] theorem State.push_sp (v : Byte) : (s.push v).sp = s.sp - 1 := rfl
@[simp] theorem State.push_pc (v : Byte) : (s.push v).pc = s.pc := rfl
@[simp] theorem State.push_p (v : Byte) : (s.push v).p = s.p := rfl
@[simp] theorem State.push_nmiPending (v : Byte) : (s.push v).nmiPending = s.nmiPending := rfl
@[simp] theorem State.push_fault (v : Byte) : (s.push v).fault = s.fault := rfl
@[simp] theorem State.push_irqIn (v : Byte) : (s.push v).irqIn = s.irqIn := rfl
@[simp] theorem State.push_cycles (v : Byte) : (s.push v).cycles = s.cycles := rfl
@[simp] theorem State.push_mem (v : Byte) : (s.push v).mem = if inRam (stackAddr s.sp) then s.mem.set (busKey (stackAddr s.sp)) v else s.mem := rfl
@[simp] theorem State.push_dev (v : Byte) : (s.push v).dev = s.dev := rfl
@[simp] theorem State.push_trace (v : Byte) : (s.push v).trace = .write (stackAddr s.sp) v :: s.trace := rfl
@[simp] theorem State.push_inputs (v : Byte) : (s.push v).inputs = s.inputs := rfl

@[simp] theorem State.report_a (n : Nat) : (s.report n).a = s.a := rfl
@[simp] theorem State.report_x (n : Nat) : (s.report n).x = s.x := rfl
@[simp] theorem State.report_y (n : Nat) : (s.report n).y = s.y := rfl
@[simp] theorem State.report_sp (n : Nat) : (s.report n).sp = s.sp := rfl
@[simp] theorem State.report_pc (n : Nat) : (s.report n).pc = s.pc := rfl
@[simp] theorem State.report_p (n : Nat) : (s.report n).p = s.p := rfl
@[simp] theorem State.report_nmiPending (n : Nat) : (s.report n).nmiPending = s.nmiPending := rfl
@[simp] theorem State.report_fault (n : Nat) : (s.report n).fault = s.fault := rfl
@[simp] theorem State.report_irqIn (n : Nat) : (s.report n).irqIn = s.irqIn := rfl
@[simp] theorem State.report_cycles (n : Nat) : (s.report n).cycles = some n := rfl
@[simp] theorem State.report_mem (n : Nat) : (s.report n).mem = s.mem := rfl
@[simp] theorem State.report_dev (n : Nat) : (s.report n).dev = s.dev := rfl
@[simp] theorem State.report_trace (n : Nat) : (s.report n).trace = .tick n :: s.trace := rfl
@[simp] theorem State.report_inputs (n : Nat) : (s.report n).inputs = s.inputs := rfl

@[simp] theorem State.retire_a (l n : Nat) : (s.retire l n).a = s.a := rfl
@[simp] theorem State.retire_x (l n : Nat) : (s.retire l n).x = s.x := rfl
@[simp] theorem State.retire_y (l n : Nat) : (s.retire l n).y = s.y := rfl
@[simp] theorem State.retire_sp (l n : Nat) : (s.retire l n).sp = s.sp := rfl
@[simp] theorem State.retire_pc (l n : Nat) : (s.retire l n).pc = s.pc + BitVec.ofNat 16 l := rfl
@[simp] theorem State.retire_p (l n : Nat) : (s.retire l n).p = s.p := rfl
@[simp] theorem State.retire_nmiPending (l n : Nat) : (s.retire l n).nmiPending = s.nmiPending := rfl
@[simp] theorem State.retire_fault (l n : Nat) : (s.retire l n).fault = s.fault := rfl
@[simp] theorem State.retire_irqIn (l n : Nat) : (s.retire l n).irqIn = s.irqIn := rfl
@[simp] theorem State.retire_cycles (l n : Nat) : (s.retire l n).cycles = some n := rfl
@[simp] theorem State.retire_mem (l n : Nat) : (s.retire l n).mem = s.mem := rfl
@[simp] theorem State.retire_dev (l n : Nat) : (s.retire l n).dev = s.dev := rfl
@[simp] theorem State.retire_trace (l n : Nat) : (s.retire l n).trace = .tick n :: s.trace := rfl
@[simp] theorem State.retire_inputs (l n : Nat) : (s.retire l n).inputs = s.inputs := rfl

@[simp] theorem State.jumpTo_a (w : Word) (n : Nat) : (s.jumpTo w n).a = s.a := rfl
@[simp] theorem State.jumpTo_x (w : Word) (n : Nat) : (s.jumpTo w n).x = s.x := rfl
@[simp] theorem State.jumpTo_y (w : Word) (n : Nat) : (s.jumpTo w n).y = s.y := rfl
@[simp] theorem State.jumpTo_sp (w : Word) (n : Nat) : (s.jumpTo w n).sp = s.sp := rfl
@[simp] theorem State.jumpTo_pc (w : Word) (n : Nat) : (s.jumpTo w n).pc = w := rfl
@[simp] theorem State.jumpTo_p (w : Word) (n : Nat) : (s.jumpTo w n).p = s.p := rfl
@[simp] theorem State.jumpTo_nmiPending (w : Word) (n : Nat) : (s.jumpTo w n).nmiPending = s.nmiPending := rfl
@[simp] theorem State.jumpTo_fault (w : Word) (n : Nat) : (s.jumpTo w n).fault = s.fault := rfl
@[simp] theorem State.jumpTo_irqIn (w : Word) (n : Nat) : (s.jumpTo w n).irqIn = s.irqIn := rfl
@[simp] theorem State.jumpTo_cycles (w : Word) (n : Nat) : (s.jumpTo w n).cycles = some n := rfl
@[simp] theorem State.jumpTo_mem (w : Word) (n : Nat) : (s.jumpTo w n).mem = s.mem := rfl
@[simp] theorem State.jumpTo_dev (w : Word) (n : Nat) : (s.jumpTo w n).dev = s.dev := rfl
@[simp] theorem State.jumpTo_trace (w : Word) (n : Nat) : (s.jumpTo w n).trace = .tick n :: s.trace := rfl
@[simp] theorem State.jumpTo_inputs (w : Word) (n : Nat) : (s.jumpTo w n).inputs = s.inputs := rfl

@[simp] theorem State.raiseDecodeError_a (op : Byte) : (s.raiseDecodeError op).a = s.a := rfl
@[simp] theorem State.raiseDecodeError_x (op : Byte) : (s.raiseDecodeError op).x = s.x := rfl
@[simp] theorem State.raiseDecodeError_y (op : Byte) : (s.raiseDecodeError op).y = s.y := rfl
@[simp] theorem State.raiseDecodeError_sp (op : Byte) : (s.raiseDecodeError op).sp = s.sp := rfl
@[simp] theorem State.raiseDecodeError_pc (op : Byte) : (s.raiseDecodeError op).pc = s.pc := rfl
@[simp] theorem State.raiseDecodeError_p (op : Byte) : (s.raiseDecodeError op).p = s.p := rfl
@[simp] theorem State.raiseDecodeError_nmiPending (op : Byte) : (s.raiseDecodeError op).nmiPending = s.nmiPending := rfl
@[simp] theorem State.raiseDecodeError_fault (op : Byte) : (s.raiseDecodeError op).fault = some ⟨op, s.pc⟩ := rfl
@[simp] theorem State.raiseDecodeError_irqIn (op : Byte) : (s.raiseDecodeError op).irqIn = s.irqIn := rfl
@[simp] theorem State.raiseDecodeError_cycles (op : Byte) : (s.raiseDecodeError op).cycles = none := rfl
@[simp] theorem State.raiseDecodeError_mem (op : Byte) : (s.raiseDecodeError op).mem = s.mem := rfl
@[simp] theorem State.raiseDecodeError_dev (op : Byte) : (s.raiseDecodeError op).dev = s.dev := rfl
@[simp] theorem State.raiseDecodeError_trace (op : Byte) : (s.raiseDecodeError op).trace = s.trace := rfl
@[simp] theorem State.raiseDecodeError_inputs (op : Byte) : (s.raiseDecodeError op).inputs = s.inputs := rfl

/-! A register write, seen through the registers and as the other fields. -/

@[simp] theorem State.setReg_reg (r q : Reg) (v : Byte) : (s.setReg r v).reg q = if q = r then v else s.reg q := by
  cases r <;> cases q <;> rfl

@[simp] theorem State.setReg_pc (r : Reg) (v : Byte) : (s.setReg r v).pc = s.pc := by cases r <;> rfl
@[simp] theorem State.setReg_p (r : Reg) (v : Byte) : (s.setReg r v).p = s.p := by cases r <;> rfl
@[simp] theorem State.setReg_nmiPending (r : Reg) (v : Byte) : (s.setReg r v).nmiPending = s.nmiPending := by cases r <;> rfl
@[simp] theorem State.setReg_fault (r : Reg) (v : Byte) : (s.setReg r v).fault = s.fault := by cases r <;> rfl
@[simp] theorem State.setReg_irqIn (r : Reg) (v : Byte) : (s.setReg r v).irqIn = s.irqIn := by cases r <;> rfl
@[simp] theorem State.setReg_cycles (r : Reg) (v : Byte) : (s.setReg r v).cycles = s.cycles := by cases r <;> rfl
@[simp] theorem State.setReg_mem (r : Reg) (v : Byte) : (s.setReg r v).mem = s.mem := by cases r <;> rfl
@[simp] theorem State.setReg_dev (r : Reg) (v : Byte) : (s.setReg r v).dev = s.dev := by cases r <;> rfl
@[simp] theorem State.setReg_trace (r : Reg) (v : Byte) : (s.setReg r v).trace = s.trace := by cases r <;> rfl
@[simp] theorem State.setReg_inputs (r : Reg) (v : Byte) : (s.setReg r v).inputs = s.inputs := by cases r <;> rfl

@[simp] theorem State.setReg_a (r : Reg) (v : Byte) : (s.setReg r v).a = if r = .a then v else s.a := by
  cases r <;> rfl

@[simp] theorem State.setReg_x (r : Reg) (v : Byte) : (s.setReg r v).x = if r = .x then v else s.x := by
  cases r <;> rfl

@[simp] theorem State.setReg_y (r : Reg) (v : Byte) : (s.setReg r v).y = if r = .y then v else s.y := by
  cases r <;> rfl

@[simp] theorem State.setReg_sp (r : Reg) (v : Byte) : (s.setReg r v).sp = if r = .s then v else s.sp := by
  cases r <;> rfl

/-! What a register or a flag is. -/

@[simp] theorem State.reg_a : s.reg .a = s.a := rfl
@[simp] theorem State.reg_x : s.reg .x = s.x := rfl
@[simp] theorem State.reg_y : s.reg .y = s.y := rfl
@[simp] theorem State.reg_s : s.reg .s = s.sp := rfl

theorem State.flag_eq (f : Flag) : s.flag f = getFlag f s.p := rfl

/-- A register is read the same way in two states that agree on the four of them. -/
theorem State.reg_congr (s t : State) (ha : t.a = s.a) (hx : t.x = s.x) (hy : t.y = s.y) (hs : t.sp = s.sp) (q : Reg) :
    t.reg q = s.reg q := by
  cases q <;> assumption

@[simp] theorem transactions_read (a : Word) (v : Byte) (l : List Event) :
    transactions (.read a v :: l) = transactions l + 1 := rfl
@[simp] theorem transactions_write (a : Word) (v : Byte) (l : List Event) :
    transactions (.write a v :: l) = transactions l + 1 := rfl
@[simp] theorem transactions_tick (n : Nat) (l : List Event) : transactions (.tick n :: l) = transactions l := rfl
@[simp] theorem transactions_outside (k : Nat) (l : List Event) :
    transactions (.outside k :: l) = transactions l := rfl

end Sys2Proof.Machine
end

