-- ==== Sys2Proof/Laws/Exec.lean ====
section
/-! SUPPORT. What an instruction can do, said once: every meaning is one of the shared operations below, so a proof about
all instructions is a proof about these (`exec_eq`). -/

namespace Sys2Proof.Machine

/-- The shared operations, with the data that tell their instructions apart. -/
inductive Form where
  | load (r : Reg) (src : Source) (n : Nat)
  | store (r : Reg) (m : Mode) (n : Nat)
  | transfer (src dst : Reg) (n : Nat)
  | txs
  | pha
  | php
  | pla
  | plp
  | adc (src : Source) (n : Nat)
  | sbc (src : Source) (n : Nat)
  | compare (r : Reg) (src : Source) (n : Nat)
  | and (src : Source) (n : Nat)
  | ora (src : Source) (n : Nat)
  | eor (src : Source) (n : Nat)
  | bit (src : Source) (n : Nat)
  | shiftAcc (op : ShiftOp) (n : Nat)
  | shiftMem (op : ShiftOp) (m : Mode) (n : Nat)
  | incMem (d : Byte) (m : Mode) (n : Nat)
  | incReg (d : Byte) (r : Reg) (n : Nat)
  | jmp (w : Word)
  | jmpInd (w : Word)
  | jsr (w : Word)
  | rts
  | branch (f : Flag) (want : Bool) (b : Byte)
  | flag (f : Flag) (b : Bool)
  | nop
  | brk
  | rti
  | illegal (op : Byte)

/-- The effect of a form. -/
def Form.run (f : Form) (s : State) : State :=
  match f with
  | .load r src n => s.load r src n
  | .store r m n => s.store r m n
  | .transfer src dst n => s.transfer src dst n
  | .txs => (s.setReg .s s.x).retire 1 2
  | .pha => (s.push s.a).retire 1 3
  | .php => (s.push (statusWithBreak s.p)).retire 1 3
  | .pla => ((s.pull.2.setReg .a s.pull.1).setZN s.pull.1).retire 1 4
  | .plp => (s.pull.2.setStatus s.pull.1).retire 1 4
  | .adc src n => s.arith add8 src n
  | .sbc src n => s.arith sub8 src n
  | .compare r src n => s.compare r src n
  | .and src n => s.logic (· &&& ·) src n
  | .ora src n => s.logic (· ||| ·) src n
  | .eor src n => s.logic (· ^^^ ·) src n
  | .bit src n => s.bitTest src n
  | .shiftAcc op n => s.shiftAcc op n
  | .shiftMem op m n => s.shiftMem op m n
  | .incMem d m n => s.incMem d m n
  | .incReg d r n => s.incReg d r n
  | .jmp w => s.jumpTo w 3
  | .jmpInd w => (s.indirect w).2.jumpTo (s.indirect w).1 5
  | .jsr w => (s.pushWord (s.pc + 2)).jumpTo w 6
  | .rts => s.pullWord.2.jumpTo (s.pullWord.1 + 1) 6
  | .branch f want b => s.branch f want b
  | .flag f b => (s.setFlag f b).retire 1 2
  | .nop => s.retire 1 2
  | .brk => s.takeException (s.pc + 2) (statusWithBreak s.p) irqVector
  | .rti => s.returnFromException 6
  | .illegal op => s.raiseDecodeError op

/-- The form of an instruction. -/
def formOf : Instr → Form
  | .ldaImm imm => .load .a (.imm imm) 2
  | .ldaZp zp => .load .a (.mem (.zp zp)) 3
  | .ldaZpx zp => .load .a (.mem (.zpx zp)) 4
  | .ldaAbs addr => .load .a (.mem (.abs addr)) 4
  | .ldaAbsx addr => .load .a (.mem (.absx addr)) 4
  | .ldaAbsy addr => .load .a (.mem (.absy addr)) 4
  | .ldaIndx zp => .load .a (.mem (.indx zp)) 6
  | .ldaIndy zp => .load .a (.mem (.indy zp)) 5
  | .ldxImm imm => .load .x (.imm imm) 2
  | .ldxZp zp => .load .x (.mem (.zp zp)) 3
  | .ldxZpy zp => .load .x (.mem (.zpy zp)) 4
  | .ldxAbs addr => .load .x (.mem (.abs addr)) 4
  | .ldxAbsy addr => .load .x (.mem (.absy addr)) 4
  | .ldyImm imm => .load .y (.imm imm) 2
  | .ldyZp zp => .load .y (.mem (.zp zp)) 3
  | .ldyZpx zp => .load .y (.mem (.zpx zp)) 4
  | .ldyAbs addr => .load .y (.mem (.abs addr)) 4
  | .ldyAbsx addr => .load .y (.mem (.absx addr)) 4
  | .staZp zp => .store .a (.zp zp) 3
  | .staZpx zp => .store .a (.zpx zp) 4
  | .staAbs addr => .store .a (.abs addr) 4
  | .staAbsx addr => .store .a (.absx addr) 5
  | .staAbsy addr => .store .a (.absy addr) 5
  | .staIndx zp => .store .a (.indx zp) 6
  | .staIndy zp => .store .a (.indy zp) 6
  | .stxZp zp => .store .x (.zp zp) 3
  | .stxZpy zp => .store .x (.zpy zp) 4
  | .stxAbs addr => .store .x (.abs addr) 4
  | .styZp zp => .store .y (.zp zp) 3
  | .styZpx zp => .store .y (.zpx zp) 4
  | .styAbs addr => .store .y (.abs addr) 4
  | .tax => .transfer .a .x 2
  | .tay => .transfer .a .y 2
  | .txa => .transfer .x .a 2
  | .tya => .transfer .y .a 2
  | .tsx => .transfer .s .x 2
  | .txs => .txs
  | .pha => .pha
  | .php => .php
  | .pla => .pla
  | .plp => .plp
  | .adcImm imm => .adc (.imm imm) 2
  | .adcZp zp => .adc (.mem (.zp zp)) 3
  | .adcZpx zp => .adc (.mem (.zpx zp)) 4
  | .adcAbs addr => .adc (.mem (.abs addr)) 4
  | .adcAbsx addr => .adc (.mem (.absx addr)) 4
  | .adcAbsy addr => .adc (.mem (.absy addr)) 4
  | .adcIndx zp => .adc (.mem (.indx zp)) 6
  | .adcIndy zp => .adc (.mem (.indy zp)) 5
  | .sbcImm imm => .sbc (.imm imm) 2
  | .sbcZp zp => .sbc (.mem (.zp zp)) 3
  | .sbcZpx zp => .sbc (.mem (.zpx zp)) 4
  | .sbcAbs addr => .sbc (.mem (.abs addr)) 4
  | .sbcAbsx addr => .sbc (.mem (.absx addr)) 4
  | .sbcAbsy addr => .sbc (.mem (.absy addr)) 4
  | .sbcIndx zp => .sbc (.mem (.indx zp)) 6
  | .sbcIndy zp => .sbc (.mem (.indy zp)) 5
  | .cmpImm imm => .compare .a (.imm imm) 2
  | .cmpZp zp => .compare .a (.mem (.zp zp)) 3
  | .cmpZpx zp => .compare .a (.mem (.zpx zp)) 4
  | .cmpAbs addr => .compare .a (.mem (.abs addr)) 4
  | .cmpAbsx addr => .compare .a (.mem (.absx addr)) 4
  | .cmpAbsy addr => .compare .a (.mem (.absy addr)) 4
  | .cmpIndx zp => .compare .a (.mem (.indx zp)) 6
  | .cmpIndy zp => .compare .a (.mem (.indy zp)) 5
  | .cpxImm imm => .compare .x (.imm imm) 2
  | .cpxZp zp => .compare .x (.mem (.zp zp)) 3
  | .cpxAbs addr => .compare .x (.mem (.abs addr)) 4
  | .cpyImm imm => .compare .y (.imm imm) 2
  | .cpyZp zp => .compare .y (.mem (.zp zp)) 3
  | .cpyAbs addr => .compare .y (.mem (.abs addr)) 4
  | .andImm imm => .and (.imm imm) 2
  | .andZp zp => .and (.mem (.zp zp)) 3
  | .andZpx zp => .and (.mem (.zpx zp)) 4
  | .andAbs addr => .and (.mem (.abs addr)) 4
  | .andAbsx addr => .and (.mem (.absx addr)) 4
  | .andAbsy addr => .and (.mem (.absy addr)) 4
  | .andIndx zp => .and (.mem (.indx zp)) 6
  | .andIndy zp => .and (.mem (.indy zp)) 5
  | .oraImm imm => .ora (.imm imm) 2
  | .oraZp zp => .ora (.mem (.zp zp)) 3
  | .oraZpx zp => .ora (.mem (.zpx zp)) 4
  | .oraAbs addr => .ora (.mem (.abs addr)) 4
  | .oraAbsx addr => .ora (.mem (.absx addr)) 4
  | .oraAbsy addr => .ora (.mem (.absy addr)) 4
  | .oraIndx zp => .ora (.mem (.indx zp)) 6
  | .oraIndy zp => .ora (.mem (.indy zp)) 5
  | .eorImm imm => .eor (.imm imm) 2
  | .eorZp zp => .eor (.mem (.zp zp)) 3
  | .eorZpx zp => .eor (.mem (.zpx zp)) 4
  | .eorAbs addr => .eor (.mem (.abs addr)) 4
  | .eorAbsx addr => .eor (.mem (.absx addr)) 4
  | .eorAbsy addr => .eor (.mem (.absy addr)) 4
  | .eorIndx zp => .eor (.mem (.indx zp)) 6
  | .eorIndy zp => .eor (.mem (.indy zp)) 5
  | .bitZp zp => .bit (.mem (.zp zp)) 3
  | .bitAbs addr => .bit (.mem (.abs addr)) 4
  | .aslAcc => .shiftAcc .asl 2
  | .aslZp zp => .shiftMem .asl (.zp zp) 5
  | .aslZpx zp => .shiftMem .asl (.zpx zp) 6
  | .aslAbs addr => .shiftMem .asl (.abs addr) 6
  | .aslAbsx addr => .shiftMem .asl (.absx addr) 7
  | .lsrAcc => .shiftAcc .lsr 2
  | .lsrZp zp => .shiftMem .lsr (.zp zp) 5
  | .lsrZpx zp => .shiftMem .lsr (.zpx zp) 6
  | .lsrAbs addr => .shiftMem .lsr (.abs addr) 6
  | .lsrAbsx addr => .shiftMem .lsr (.absx addr) 7
  | .rolAcc => .shiftAcc .rol 2
  | .rolZp zp => .shiftMem .rol (.zp zp) 5
  | .rolZpx zp => .shiftMem .rol (.zpx zp) 6
  | .rolAbs addr => .shiftMem .rol (.abs addr) 6
  | .rolAbsx addr => .shiftMem .rol (.absx addr) 7
  | .rorAcc => .shiftAcc .ror 2
  | .rorZp zp => .shiftMem .ror (.zp zp) 5
  | .rorZpx zp => .shiftMem .ror (.zpx zp) 6
  | .rorAbs addr => .shiftMem .ror (.abs addr) 6
  | .rorAbsx addr => .shiftMem .ror (.absx addr) 7
  | .incZp zp => .incMem 1 (.zp zp) 5
  | .incZpx zp => .incMem 1 (.zpx zp) 6
  | .incAbs addr => .incMem 1 (.abs addr) 6
  | .incAbsx addr => .incMem 1 (.absx addr) 7
  | .decZp zp => .incMem 0xFF (.zp zp) 5
  | .decZpx zp => .incMem 0xFF (.zpx zp) 6
  | .decAbs addr => .incMem 0xFF (.abs addr) 6
  | .decAbsx addr => .incMem 0xFF (.absx addr) 7
  | .inx => .incReg 1 .x 2
  | .iny => .incReg 1 .y 2
  | .dex => .incReg 0xFF .x 2
  | .dey => .incReg 0xFF .y 2
  | .jmpAbs addr => .jmp addr
  | .jmpInd ptr => .jmpInd ptr
  | .jsr addr => .jsr addr
  | .rts => .rts
  | .bpl rel => .branch .n false rel
  | .bmi rel => .branch .n true rel
  | .bvc rel => .branch .v false rel
  | .bvs rel => .branch .v true rel
  | .bcc rel => .branch .c false rel
  | .bcs rel => .branch .c true rel
  | .bne rel => .branch .z false rel
  | .beq rel => .branch .z true rel
  | .clc => .flag .c false
  | .sec => .flag .c true
  | .cli => .flag .i false
  | .sei => .flag .i true
  | .clv => .flag .v false
  | .cld => .flag .d false
  | .sed => .flag .d true
  | .nop => .nop
  | .brk => .brk
  | .rti => .rti
  | .illegal02 => .illegal 0x02
  | .illegal03 => .illegal 0x03
  | .illegal04 => .illegal 0x04
  | .illegal07 => .illegal 0x07
  | .illegal0B => .illegal 0x0B
  | .illegal0C => .illegal 0x0C
  | .illegal0F => .illegal 0x0F
  | .illegal12 => .illegal 0x12
  | .illegal13 => .illegal 0x13
  | .illegal14 => .illegal 0x14
  | .illegal17 => .illegal 0x17
  | .illegal1A => .illegal 0x1A
  | .illegal1B => .illegal 0x1B
  | .illegal1C => .illegal 0x1C
  | .illegal1F => .illegal 0x1F
  | .illegal22 => .illegal 0x22
  | .illegal23 => .illegal 0x23
  | .illegal27 => .illegal 0x27
  | .illegal2B => .illegal 0x2B
  | .illegal2F => .illegal 0x2F
  | .illegal32 => .illegal 0x32
  | .illegal33 => .illegal 0x33
  | .illegal34 => .illegal 0x34
  | .illegal37 => .illegal 0x37
  | .illegal3A => .illegal 0x3A
  | .illegal3B => .illegal 0x3B
  | .illegal3C => .illegal 0x3C
  | .illegal3F => .illegal 0x3F
  | .illegal42 => .illegal 0x42
  | .illegal43 => .illegal 0x43
  | .illegal44 => .illegal 0x44
  | .illegal47 => .illegal 0x47
  | .illegal4B => .illegal 0x4B
  | .illegal4F => .illegal 0x4F
  | .illegal52 => .illegal 0x52
  | .illegal53 => .illegal 0x53
  | .illegal54 => .illegal 0x54
  | .illegal57 => .illegal 0x57
  | .illegal5A => .illegal 0x5A
  | .illegal5B => .illegal 0x5B
  | .illegal5C => .illegal 0x5C
  | .illegal5F => .illegal 0x5F
  | .illegal62 => .illegal 0x62
  | .illegal63 => .illegal 0x63
  | .illegal64 => .illegal 0x64
  | .illegal67 => .illegal 0x67
  | .illegal6B => .illegal 0x6B
  | .illegal6F => .illegal 0x6F
  | .illegal72 => .illegal 0x72
  | .illegal73 => .illegal 0x73
  | .illegal74 => .illegal 0x74
  | .illegal77 => .illegal 0x77
  | .illegal7A => .illegal 0x7A
  | .illegal7B => .illegal 0x7B
  | .illegal7C => .illegal 0x7C
  | .illegal7F => .illegal 0x7F
  | .illegal80 => .illegal 0x80
  | .illegal82 => .illegal 0x82
  | .illegal83 => .illegal 0x83
  | .illegal87 => .illegal 0x87
  | .illegal89 => .illegal 0x89
  | .illegal8B => .illegal 0x8B
  | .illegal8F => .illegal 0x8F
  | .illegal92 => .illegal 0x92
  | .illegal93 => .illegal 0x93
  | .illegal97 => .illegal 0x97
  | .illegal9B => .illegal 0x9B
  | .illegal9C => .illegal 0x9C
  | .illegal9E => .illegal 0x9E
  | .illegal9F => .illegal 0x9F
  | .illegalA3 => .illegal 0xA3
  | .illegalA7 => .illegal 0xA7
  | .illegalAB => .illegal 0xAB
  | .illegalAF => .illegal 0xAF
  | .illegalB2 => .illegal 0xB2
  | .illegalB3 => .illegal 0xB3
  | .illegalB7 => .illegal 0xB7
  | .illegalBB => .illegal 0xBB
  | .illegalBF => .illegal 0xBF
  | .illegalC2 => .illegal 0xC2
  | .illegalC3 => .illegal 0xC3
  | .illegalC7 => .illegal 0xC7
  | .illegalCB => .illegal 0xCB
  | .illegalCF => .illegal 0xCF
  | .illegalD2 => .illegal 0xD2
  | .illegalD3 => .illegal 0xD3
  | .illegalD4 => .illegal 0xD4
  | .illegalD7 => .illegal 0xD7
  | .illegalDA => .illegal 0xDA
  | .illegalDB => .illegal 0xDB
  | .illegalDC => .illegal 0xDC
  | .illegalDF => .illegal 0xDF
  | .illegalE2 => .illegal 0xE2
  | .illegalE3 => .illegal 0xE3
  | .illegalE7 => .illegal 0xE7
  | .illegalEB => .illegal 0xEB
  | .illegalEF => .illegal 0xEF
  | .illegalF2 => .illegal 0xF2
  | .illegalF3 => .illegal 0xF3
  | .illegalF4 => .illegal 0xF4
  | .illegalF7 => .illegal 0xF7
  | .illegalFA => .illegal 0xFA
  | .illegalFB => .illegal 0xFB
  | .illegalFC => .illegal 0xFC
  | .illegalFF => .illegal 0xFF

/-- Every instruction, in every state, answers a next state, and it is its form's. -/
theorem exec_eq (i : Instr) (s : State) : exec i s = .next ((formOf i).run s) := by
  cases i <;> rfl

theorem exec_next_iff (i : Instr) (s t : State) : exec i s = .next t ↔ t = (formOf i).run s := by
  rw [exec_eq]
  exact ⟨fun h => (Host.Outcome.next.inj h).symm, fun h => h ▸ rfl⟩

end Sys2Proof.Machine
end

