-- ==== Sys2Proof/Laws/Flags.lean ====
section
/-! SUPPORT. The status byte: a flag after a flag write, the bits a flag write keeps, and the form of P (R14-R16). -/

namespace Sys2Proof.Machine

theorem Flag.pos_lt (f : Flag) : f.pos < 8 := by cases f <;> decide

theorem Flag.pos_inj {f g : Flag} : f.pos = g.pos ↔ f = g := by cases f <;> cases g <;> decide

theorem getLsbD_bitByte (b : Bool) (k : Nat) : (bitByte b).getLsbD k = (decide (k = 0) && b) := by
  cases b <;> simp [bitByte, BitVec.getLsbD_one]

/-- A flag write changes that bit of P and no other (R16). -/
theorem putFlag_getLsbD (f : Flag) (b : Bool) (p : Byte) (k : Nat) (hk : k < 8) :
    (putFlag f b p).getLsbD k = if k = f.pos then b else p.getLsbD k := by
  have hf := f.pos_lt
  rw [putFlag, show (1 : Byte) = bitByte true from rfl, BitVec.getLsbD_or, BitVec.getLsbD_and, BitVec.getLsbD_not,
    BitVec.getLsbD_shiftLeft, BitVec.getLsbD_shiftLeft, getLsbD_bitByte, getLsbD_bitByte]
  by_cases h : k = f.pos
  · subst h; simp [hk]
  · by_cases h' : k < f.pos
    · simp [h, h', hk]
    · have : k - f.pos ≠ 0 := by omega
      simp [h, h', hk, this]

@[simp] theorem getFlag_putFlag (f g : Flag) (b : Bool) (p : Byte) :
    getFlag g (putFlag f b p) = if g = f then b else getFlag g p := by
  rw [getFlag, putFlag_getLsbD f b p _ g.pos_lt]
  simp only [Flag.pos_inj, getFlag]

@[simp] theorem getFlag_putZN (g : Flag) (v p : Byte) :
    getFlag g (putZN v p) = if g = .n then v.getLsbD 7 else if g = .z then v == 0 else getFlag g p := by
  simp [putZN]

theorem putZN_getLsbD (v p : Byte) (k : Nat) (hk : k < 8) :
    (putZN v p).getLsbD k = if k = 7 then v.getLsbD 7 else if k = 1 then v == 0 else p.getLsbD k := by
  rw [putZN, putFlag_getLsbD _ _ _ _ hk, putFlag_getLsbD _ _ _ _ hk]
  rfl

/-- After `setZN(v)` Z and N are those of `v` (R6). -/
theorem znOf_of_p {v p : Byte} {t : State} (h : t.p = putZN v p) : ZNOf v t := by
  simp only [ZNOf, State.flag, h, getFlag_putZN, if_true]
  exact ⟨rfl, trivial⟩

/-- `setZN` keeps every other bit of P (R6). -/
theorem flagsKept_of_putZN {v : Byte} {s t : State} (h : t.p = putZN v s.p) : FlagsKeptExcept [.z, .n] s t := by
  intro k hk hf
  simp only [List.mem_cons, List.not_mem_nil, or_false, forall_eq_or_imp, forall_eq, Flag.pos] at hf
  rw [h, putZN_getLsbD _ _ _ hk, if_neg (by omega), if_neg (by omega)]

/-- The frame of the registers, register by register. -/
theorem regsKept_iff {rs : List Reg} {s t : State} :
    RegsKeptExcept rs s t ↔
      (.a ∉ rs → t.a = s.a) ∧ (.x ∉ rs → t.x = s.x) ∧ (.y ∉ rs → t.y = s.y) ∧ (.s ∉ rs → t.sp = s.sp) :=
  ⟨fun h => ⟨h .a, h .x, h .y, h .s⟩, fun h q hq => by cases q <;> simp_all [State.reg]⟩

theorem statusForm_putFlag (f : Flag) (b : Bool) {p : Byte} (h : StatusForm p) : StatusForm (putFlag f b p) := by
  unfold StatusForm at *
  rw [putFlag_getLsbD _ _ _ _ (by decide), putFlag_getLsbD _ _ _ _ (by decide)]
  cases f <;> simpa [Flag.pos] using h

theorem statusForm_putZN (v : Byte) {p : Byte} (h : StatusForm p) : StatusForm (putZN v p) :=
  statusForm_putFlag _ _ (statusForm_putFlag _ _ h)

/-- What PLP and RTI load is in the stored form, whatever was pulled (R15). -/
theorem statusForm_fromPulled (m : Byte) : StatusForm (statusFromPulled m) := by
  simp [StatusForm, statusFromPulled, unusedBit]

/-- The six flags PLP and RTI load are the pulled byte's (R99, R159). -/
@[simp] theorem getFlag_fromPulled (f : Flag) (m : Byte) : getFlag f (statusFromPulled m) = getFlag f m := by
  cases f <;> simp [getFlag, Flag.pos, statusFromPulled, unusedBit]

theorem byte_eq_of_bits {p q : Byte} (h : ∀ k, k < 8 → p.getLsbD k = q.getLsbD k) : p = q :=
  BitVec.eq_of_getLsbD_eq (by simpa using h)

/-- A status byte in the stored form survives a push by BRK or PHP and a pull (R15). -/
theorem fromPulled_withBreak {p : Byte} (h : StatusForm p) : statusFromPulled (statusWithBreak p) = p := by
  obtain ⟨h5, h4⟩ := h
  simp only [BitVec.getLsbD_eq_getElem, Nat.reduceLT] at h5 h4
  apply byte_eq_of_bits
  intro k hk
  have : k = 0 ∨ k = 1 ∨ k = 2 ∨ k = 3 ∨ k = 4 ∨ k = 5 ∨ k = 6 ∨ k = 7 := by omega
  rcases this with rfl | rfl | rfl | rfl | rfl | rfl | rfl | rfl <;>
    simp [statusFromPulled, statusWithBreak, unusedBit, breakBit, h4, h5]

/-- A status byte in the stored form survives a push by an interrupt entry and a pull (R15). -/
theorem fromPulled_self {p : Byte} (h : StatusForm p) : statusFromPulled p = p := by
  obtain ⟨h5, h4⟩ := h
  simp only [BitVec.getLsbD_eq_getElem, Nat.reduceLT] at h5 h4
  apply byte_eq_of_bits
  intro k hk
  have : k = 0 ∨ k = 1 ∨ k = 2 ∨ k = 3 ∨ k = 4 ∨ k = 5 ∨ k = 6 ∨ k = 7 := by omega
  rcases this with rfl | rfl | rfl | rfl | rfl | rfl | rfl | rfl <;>
    simp [statusFromPulled, unusedBit, h4, h5]

end Sys2Proof.Machine
end

