-- ==== Sys2Proof/Laws/Memory.lean ====
section
/-! SUPPORT. Memory as data: read after write, the canonical form and who keeps it, keys and mirrors (R34, R35); the
byte a bus read returns, and the two frames `MemoryKeptExcept` and `StoredAt`. -/

namespace Sys2Proof.Machine

theorem Memory.get?_set (m : Memory) (k j : Nat) (v : Byte) :
    (m.set k v).get? j = if k = j then some v else m.get? j := by
  induction m with
  | nil => simp [Memory.set, Memory.get?]
  | cons c rest ih =>
    obtain ⟨k', v'⟩ := c
    simp only [Memory.set]
    split
    · simp [Memory.get?]
    · split
      · subst_vars; simp only [Memory.get?]; split <;> rfl
      · simp only [Memory.get?, ih]
        split
        · subst_vars; simp [*]
        · rfl

theorem Memory.wfFrom_mono {lo lo' : Nat} (h : lo' ≤ lo) {m : Memory} (hm : m.wfFrom lo = true) :
    m.wfFrom lo' = true := by
  cases m with
  | nil => rfl
  | cons c rest => simp only [Memory.wfFrom, Bool.and_eq_true, decide_eq_true_eq] at *; exact ⟨⟨⟨by omega, hm.1.1.2⟩, hm.1.2⟩, hm.2⟩

theorem Memory.wfFrom_set {lo k : Nat} (v : Byte) (hlo : lo ≤ k) (hk : isKey k = true) {m : Memory}
    (hm : m.wfFrom lo = true) : (m.set k v).wfFrom lo = true := by
  induction m generalizing lo with
  | nil => simp [Memory.set, Memory.wfFrom, Memory.unlisted, hlo, hk]
  | cons c rest ih =>
    obtain ⟨k', v'⟩ := c
    simp only [Memory.wfFrom, Bool.and_eq_true, decide_eq_true_eq] at hm
    obtain ⟨⟨⟨h1, h2⟩, h3⟩, h4⟩ := hm
    simp only [Memory.set]
    split
    · simp [Memory.wfFrom, Memory.unlisted, hlo, hk, h2, h4]; omega
    · split
      · subst_vars; simp [Memory.wfFrom, Memory.unlisted, hlo, hk, h4]
      · simp [Memory.wfFrom, Memory.unlisted, h1, h2]; exact ih (by omega) h4

/-- Every memory operation keeps the canonical form. -/
theorem Memory.wf_set {k : Nat} (v : Byte) (hk : isKey k = true) {m : Memory} (hm : m.wf = true) :
    (m.set k v).wf = true :=
  Memory.wfFrom_set v (Nat.zero_le k) hk hm

theorem inRam_iff (a : Word) : inRam a = true ↔ a.toNat < 0x2000 := by simp [inRam, ramEnd]

theorem isKey_busKey {a : Word} (h : inRam a = true) : isKey (busKey a) = true := by
  rw [inRam_iff] at h
  simp only [isKey, busKey, ramEnd, ramSize, h, if_true, decide_eq_true_eq]
  omega

theorem Memory.wf_memWrite {s : State} (hm : s.mem.wf = true) (ad : Word) (v : Byte) :
    (s.memWrite ad v).mem.wf = true := by
  rw [State.memWrite_mem]
  split
  · rename_i h; exact Memory.wf_set v (isKey_busKey h) hm
  · exact hm

theorem Memory.wf_setAll {k : Nat} {l : List Byte} (hk : ∀ j, k ≤ j → j < k + l.length → isKey j = true) {m : Memory}
    (hm : m.wf = true) : (m.setAll k l).wf = true := by
  induction l generalizing m k with
  | nil => exact hm
  | cons v r ih =>
    simp only [List.length_cons] at hk
    exact ih (fun j h h' => hk j (by omega) (by omega)) (Memory.wf_set v (hk k (by omega) (by omega)) hm)

theorem Memory.get?_setAll (m : Memory) (k : Nat) (l : List Byte) (j : Nat) :
    (m.setAll k l).get? j = if k ≤ j ∧ j < k + l.length then l[j - k]? else m.get? j := by
  induction l generalizing m k with
  | nil => simp [Memory.setAll]
  | cons v r ih =>
    simp only [Memory.setAll, ih, Memory.get?_set, List.length_cons]
    by_cases h1 : j = k
    · subst h1; simp
    · by_cases h2 : k + 1 ≤ j ∧ j < k + 1 + r.length
      · have e : j - k = j - (k + 1) + 1 := by omega
        rw [if_pos h2, if_pos (by omega), e]; rfl
      · rw [if_neg h2, if_neg (Ne.symm h1), if_neg (by omega)]

/-- Reset's memory is in the canonical form. -/
theorem Memory.wf_reset : State.reset.mem.wf = true := rfl

theorem busKey_lt_iff (a : Word) : busKey a < 0x2000 ↔ a.toNat < 0x2000 := by
  simp only [busKey, ramEnd, ramSize]; split <;> omega

/-- Mirrors of one byte lie on one side of the RAM boundary. -/
theorem inRam_congr {a b : Word} (h : busKey a = busKey b) : inRam a = inRam b := by
  have := busKey_lt_iff a; have := busKey_lt_iff b
  rw [Bool.eq_iff_iff, inRam_iff, inRam_iff]; omega

/-! ### The byte a read returns -/

theorem cell_ram {s : State} {a : Word} (hr : inRam a = true) : s.cell a = s.mem.get? (busKey a) := if_pos hr

theorem cell_dev {s : State} {a : Word} (hr : inRam a = false) : s.cell a = s.dev.known a := by
  simp [State.cell, hr]

/-- What is known of a byte depends on RAM and on the environment behind the bus. -/
theorem cell_congr {s t : State} (h : t.mem = s.mem) (hd : t.dev = s.dev) (a : Word) : t.cell a = s.cell a := by
  simp [State.cell, h, hd]

/-- A RAM byte depends on memory alone. -/
theorem busByte_congr_ram {s t : State} {a b : Word} (hk : busKey a = busKey b) (hr : inRam b = true)
    (h : t.cell a = s.cell b) : t.busByte a = s.busByte b := by
  simp [State.busByte, h, inRam_congr hk, hr, hk]

theorem busByte_ram {s t : State} {a : Word} (hr : inRam a = true) (h : t.mem = s.mem) :
    t.busByte a = s.busByte a :=
  busByte_congr_ram rfl hr (by rw [cell_ram hr, cell_ram hr, h])

/-- Outside RAM a byte depends on the environment behind the bus and on what that has seen. -/
theorem busByte_dev {s t : State} {a : Word} (hr : inRam a = false) (hd : t.dev = s.dev)
    (he : t.history = s.history) : t.busByte a = s.busByte a := by
  simp [State.busByte, cell_dev hr, hd, he, hr]

/-- A byte depends on RAM, on the environment behind the bus, and on what that has seen. -/
theorem busByte_congr {s t : State} (hm : t.mem = s.mem) (hd : t.dev = s.dev) (he : t.history = s.history) (a : Word) :
    t.busByte a = s.busByte a := by
  simp [State.busByte, cell_congr hm hd, he]

/-- What is known of a byte after a write of RAM. -/
theorem cell_of_set {s t : State} {k : Nat} {v : Byte} (h : t.mem = s.mem.set k v) (hd : t.dev = s.dev) (a : Word) :
    t.cell a = if inRam a = true ∧ k = busKey a then some v else s.cell a := by
  simp only [State.cell, h, hd, Memory.get?_set]
  split <;> simp [*]

/-- `rom(a)` is the listed byte, 0x00 by default (R42, D19). -/
theorem romByte_eq (rom : List Host.Cell) (a : Word) : romByte rom a = (Memory.get? rom a.toNat).getD 0x00 := by
  induction rom with
  | nil => rfl
  | cons c rest ih =>
    simp only [romByte, Memory.get?, ih]
    split <;> rfl

/-! ### What the environment has seen -/

theorem history_congr {s t : State} (h : t.trace = s.trace) : t.history = s.history := by simp [State.history, h]

/-- An access to RAM is not the environment's (R35, R36, R48). -/
theorem history_note_ram {s : State} {a : Word} (v : Byte) (hr : inRam a = true) :
    (s.note (.read a v)).history = s.history ∧ (s.note (.write a v)).history = s.history := by
  simp [State.history, State.note, isDevEvent, hr]

/-- A read of RAM changes no byte of the address space, the environment's answers among them (R35, R48). -/
theorem busByte_memRead_ram {s : State} {a : Word} (hr : inRam a = true) (d : Word) :
    (s.memRead a).2.busByte d = s.busByte d :=
  busByte_congr (s := s) (t := (s.memRead a).2) rfl rfl (history_note_ram _ hr).1 d

/-- A write of RAM changes no answer of the environment (R35, R48). -/
theorem busByte_memWrite_ram {s : State} {a : Word} (v : Byte) (hr : inRam a = true) {d : Word} (hd : inRam d = false) :
    (s.memWrite a v).busByte d = s.busByte d :=
  busByte_dev hd rfl (history_note_ram v hr).2

/-! ### The frames -/

theorem memoryKept_of_mem {s t : State} (h : t.mem = s.mem) (ws : List Word) (hd : t.dev = s.dev := by first | rfl | simp) :
    MemoryKeptExcept ws s t :=
  fun a _ => ⟨cell_congr h hd a, fun hr => busByte_ram hr h⟩

theorem MemoryKeptExcept.trans {s t u : State} {ws ws' : List Word} (h : MemoryKeptExcept ws s t)
    (h' : MemoryKeptExcept ws' t u) : MemoryKeptExcept (ws ++ ws') s u := by
  intro a ha
  obtain ⟨c, b⟩ := h a fun w hw => ha w (List.mem_append_left _ hw)
  obtain ⟨c', b'⟩ := h' a fun w hw => ha w (List.mem_append_right _ hw)
  exact ⟨c'.trans c, fun hr => (b' hr).trans (b hr)⟩

theorem MemoryKeptExcept.congr_mem {s t u : State} {ws : List Word} (h : MemoryKeptExcept ws s t)
    (hm : u.mem = t.mem) (hd : u.dev = t.dev := by first | rfl | simp) : MemoryKeptExcept ws s u :=
  fun a ha => ⟨(cell_congr hm hd a).trans (h a ha).1, fun hr => (busByte_ram hr hm).trans ((h a ha).2 hr)⟩

/-- One write of `MemWrite` is a store at its address (R35). -/
theorem storedAt_of_mem {s t : State} {ea : Word} {v : Byte}
    (h : t.mem = if inRam ea then s.mem.set (busKey ea) v else s.mem) (hd : t.dev = s.dev := by first | rfl | simp) :
    StoredAt ea v s t := by
  refine ⟨fun hr => ?_, fun hr => memoryKept_of_mem (by simpa [hr] using h) _ hd⟩
  rw [if_pos hr] at h
  refine ⟨fun a ha => ?_, fun a ha => ?_⟩
  · simp [State.busByte, cell_of_set h hd, ha, inRam_congr ha, hr]
  · have hne : busKey ea ≠ busKey a := fun e => ha ea (List.mem_singleton_self _) e.symm
    have hc : t.cell a = s.cell a := by simp [cell_of_set h hd, hne]
    exact ⟨hc, fun hr' => busByte_congr_ram rfl hr' hc⟩

theorem storedAt_memWrite (s : State) (ea : Word) (v : Byte) : StoredAt ea v s (s.memWrite ea v) :=
  storedAt_of_mem rfl

/-! ### The stack page -/

theorem stackAddr_toNat (sp : Byte) : (stackAddr sp).toNat = 0x0100 + sp.toNat := by
  rw [stackAddr, mkWord_toNat]
  rfl

@[simp] theorem inRam_stackAddr (sp : Byte) : inRam (stackAddr sp) = true := by
  have := sp.isLt
  rw [inRam_iff, stackAddr_toNat]; omega

/-- A byte of the stack page depends on memory alone. -/
theorem busByte_stack {s t : State} (h : t.mem = s.mem) (q : Byte) :
    t.busByte (stackAddr q) = s.busByte (stackAddr q) :=
  busByte_ram (inRam_stackAddr q) h

theorem busKey_stackAddr (sp : Byte) : busKey (stackAddr sp) = 0x0100 + sp.toNat := by
  have := sp.isLt
  simp only [busKey, stackAddr_toNat, ramEnd, ramSize]
  split <;> omega

theorem busKey_stackAddr_inj {p q : Byte} : busKey (stackAddr p) = busKey (stackAddr q) ↔ p = q := by
  rw [busKey_stackAddr, busKey_stackAddr, ← BitVec.toNat_inj]; omega

end Sys2Proof.Machine
end

