-- ==== Sys2Proof/Laws/Ops.lean ====
section
/-! SUPPORT. What each shared operation does, one lemma each: bus reads, pointer reads, effective addresses, operands,
the stack, exceptions, the fetch.  The provers cite these and do not unfold the operations. -/

namespace Sys2Proof.Machine

variable (s : State)

@[simp] theorem State.memRead_fst (a : Word) : (s.memRead a).1 = s.busByte a := rfl

@[simp] theorem State.memRead_snd (a : Word) : (s.memRead a).2 = s.note (.read a (s.busByte a)) := rfl

/-- A pair of reads changes nothing of the machine but the record of the bus, and that by two reads. -/
theorem State.readPair_snd (lo hi : Word) :
    (s.readPair lo hi).2 =
      (s.note (.read lo (s.busByte lo))).note
        (.read hi ((s.note (.read lo (s.busByte lo))).busByte hi)) := rfl

theorem State.readPair_fst (lo hi : Word) :
    (s.readPair lo hi).1 = mkWord ((s.note (.read lo (s.busByte lo))).busByte hi) (s.busByte lo) := rfl

/-! ### Effective addresses and operands -/

/-- The pointer reads of a format change nothing but the record of the bus. -/
theorem State.locate_st (m : Mode) : (s.locate m).st = { s with trace := (s.locate m).st.trace } := by
  cases m <;> rfl

@[simp] theorem State.locate_a (m : Mode) : (s.locate m).st.a = s.a := by cases m <;> rfl
@[simp] theorem State.locate_x (m : Mode) : (s.locate m).st.x = s.x := by cases m <;> rfl
@[simp] theorem State.locate_y (m : Mode) : (s.locate m).st.y = s.y := by cases m <;> rfl
@[simp] theorem State.locate_sp (m : Mode) : (s.locate m).st.sp = s.sp := by cases m <;> rfl
@[simp] theorem State.locate_pc (m : Mode) : (s.locate m).st.pc = s.pc := by cases m <;> rfl
@[simp] theorem State.locate_p (m : Mode) : (s.locate m).st.p = s.p := by cases m <;> rfl
@[simp] theorem State.locate_nmiPending (m : Mode) : (s.locate m).st.nmiPending = s.nmiPending := by cases m <;> rfl
@[simp] theorem State.locate_fault (m : Mode) : (s.locate m).st.fault = s.fault := by cases m <;> rfl
@[simp] theorem State.locate_irqIn (m : Mode) : (s.locate m).st.irqIn = s.irqIn := by cases m <;> rfl
@[simp] theorem State.locate_cycles (m : Mode) : (s.locate m).st.cycles = s.cycles := by cases m <;> rfl
@[simp] theorem State.locate_mem (m : Mode) : (s.locate m).st.mem = s.mem := by cases m <;> rfl
@[simp] theorem State.locate_dev (m : Mode) : (s.locate m).st.dev = s.dev := by cases m <;> rfl
@[simp] theorem State.locate_inputs (m : Mode) : (s.locate m).st.inputs = s.inputs := by cases m <;> rfl

/-- Reading an operand changes nothing but the record of the bus. -/
theorem State.operand_st (src : Source) : (s.operand src).st = { s with trace := (s.operand src).st.trace } := by
  cases src with
  | imm b => rfl
  | mem m => cases m <;> rfl

@[simp] theorem State.operand_a (src : Source) : (s.operand src).st.a = s.a := by rw [State.operand_st]
@[simp] theorem State.operand_x (src : Source) : (s.operand src).st.x = s.x := by rw [State.operand_st]
@[simp] theorem State.operand_y (src : Source) : (s.operand src).st.y = s.y := by rw [State.operand_st]
@[simp] theorem State.operand_sp (src : Source) : (s.operand src).st.sp = s.sp := by rw [State.operand_st]
@[simp] theorem State.operand_pc (src : Source) : (s.operand src).st.pc = s.pc := by rw [State.operand_st]
@[simp] theorem State.operand_p (src : Source) : (s.operand src).st.p = s.p := by rw [State.operand_st]
@[simp] theorem State.operand_nmiPending (src : Source) : (s.operand src).st.nmiPending = s.nmiPending := by rw [State.operand_st]
@[simp] theorem State.operand_fault (src : Source) : (s.operand src).st.fault = s.fault := by rw [State.operand_st]
@[simp] theorem State.operand_irqIn (src : Source) : (s.operand src).st.irqIn = s.irqIn := by rw [State.operand_st]
@[simp] theorem State.operand_cycles (src : Source) : (s.operand src).st.cycles = s.cycles := by rw [State.operand_st]
@[simp] theorem State.operand_mem (src : Source) : (s.operand src).st.mem = s.mem := by rw [State.operand_st]
@[simp] theorem State.operand_dev (src : Source) : (s.operand src).st.dev = s.dev := by rw [State.operand_st]
@[simp] theorem State.operand_inputs (src : Source) : (s.operand src).st.inputs = s.inputs := by rw [State.operand_st]

@[simp] theorem State.locate_reg (m : Mode) (r : Reg) : (s.locate m).st.reg r = s.reg r := by cases r <;> simp

@[simp] theorem State.operand_reg (src : Source) (r : Reg) : (s.operand src).st.reg r = s.reg r := by cases r <;> simp

/-! ### The stack -/

@[simp] theorem State.pull_fst : s.pull.1 = s.busByte (stackAddr (s.sp + 1)) := rfl

theorem State.pull_snd :
    s.pull.2 = { s with sp := s.sp + 1, trace := .read (stackAddr (s.sp + 1)) (s.busByte (stackAddr (s.sp + 1))) :: s.trace } :=
  rfl

theorem State.busByte_push (v : Byte) (q : Byte) :
    (s.push v).busByte (stackAddr q) = if q = s.sp then v else s.busByte (stackAddr q) := by
  have h := (storedAt_of_mem (s := s) (t := s.push v) (ea := stackAddr s.sp) (v := v) (State.push_mem s v)).1
    (inRam_stackAddr s.sp)
  split
  · subst_vars; exact h.1 _ rfl
  · rename_i hq
    exact (h.2 _ (by simpa [busKey_stackAddr_inj] using hq)).2 (inRam_stackAddr q)

/-- A push changes memory at its slot alone. -/
theorem State.memoryKept_push (v : Byte) : MemoryKeptExcept [stackAddr s.sp] s (s.push v) :=
  ((storedAt_of_mem (s := s) (t := s.push v) (State.push_mem s v)).1 (inRam_stackAddr s.sp)).2

theorem State.pushWord_mem_frame (w : Word) :
    MemoryKeptExcept [stackAddr s.sp, stackAddr (s.sp - 1)] s (s.pushWord w) :=
  MemoryKeptExcept.trans (s.memoryKept_push (hiByte w)) ((s.push (hiByte w)).memoryKept_push (loByte w))

/-- What a push of a word leaves on the stack: the high byte in the upper slot (R43). -/
theorem State.busByte_pushWord (w : Word) (q : Byte) :
    (s.pushWord w).busByte (stackAddr q) =
      if q = s.sp - 1 then loByte w else if q = s.sp then hiByte w else s.busByte (stackAddr q) := by
  rw [State.pushWord, State.busByte_push, State.busByte_push]
  rfl

/-- Pulling a word (R132, R159): two reads, S two higher. -/
theorem State.pullWord_eq :
    s.pullWord =
      (mkWord (s.busByte (stackAddr (s.sp + 2))) (s.busByte (stackAddr (s.sp + 1))),
        { s with
          sp := s.sp + 2
          trace := .read (stackAddr (s.sp + 2)) (s.busByte (stackAddr (s.sp + 2))) ::
            .read (stackAddr (s.sp + 1)) (s.busByte (stackAddr (s.sp + 1))) :: s.trace }) := by
  have e : s.sp + 1 + 1 = s.sp + 2 := by rw [BitVec.add_assoc]; rfl
  have hb : s.pull.2.busByte (stackAddr (s.sp + 2)) = s.busByte (stackAddr (s.sp + 2)) :=
    busByte_stack (s := s) (t := s.pull.2) rfl _
  show (mkWord (s.pull.2.busByte (stackAddr (s.sp + 1 + 1))) _, _) = _
  rw [e, hb]
  refine congrArg _ ?_
  simp only [State.pull_snd, State.mk.injEq, e, true_and, and_true]
  rw [State.pull_snd] at hb
  rw [hb]

/-! ### The indirect pointer -/

/-- The second byte of an IND pointer lies in the pointer's page (R62). -/
theorem indirect_second (w : Word) :
    ((w &&& 0xFF00) ||| ((w + 1) &&& 0x00FF)) = mkWord (hiByte w) (loByte w + 1) := by
  have e : loByte w + 1 = loByte (w + 1) := by
    apply BitVec.eq_of_toNat_eq; simp [loByte]
  rw [e]
  generalize w + 1 = y
  apply BitVec.eq_of_getLsbD_eq
  intro i hi
  rw [mkWord_getLsbD]
  interval_cases i <;> simp [hiByte, loByte]

/-! ### Exceptions -/

/-- What taking an exception leaves on the stack (R176): the return address, high byte above, then the status. -/
theorem State.takeException_stack (ret : Word) (status : Byte) (vec : Word) (q : Byte) :
    (s.takeException ret status vec).busByte (stackAddr q) =
      if q = s.sp - 2 then status else if q = s.sp - 1 then loByte ret else if q = s.sp then hiByte ret
      else s.busByte (stackAddr q) := by
  have e : s.sp - 1 - 1 = s.sp - 2 := by rw [BitVec.sub_sub]; rfl
  rw [busByte_stack (s := (s.pushWord ret).push status) (t := s.takeException ret status vec) rfl, State.busByte_push,
    State.busByte_pushWord, ← e]
  rfl

/-- Taking an exception (R176, R178): the three pushes and I, then the vector's two bytes, low byte first. -/
theorem State.takeException_eq (ret : Word) (status : Byte) (vec : Word) :
    s.takeException ret status vec =
      ((((s.pushWord ret).push status).setFlag .i true).readPair vec (vec + 1)).2.jumpTo
        ((((s.pushWord ret).push status).setFlag .i true).readPair vec (vec + 1)).1 7 := rfl

@[simp] theorem State.readPair_mem (lo hi : Word) : (s.readPair lo hi).2.mem = s.mem := rfl
@[simp] theorem State.readPair_dev (lo hi : Word) : (s.readPair lo hi).2.dev = s.dev := rfl

@[simp] theorem State.pushWord_dev (w : Word) : (s.pushWord w).dev = s.dev := rfl

/-- What three pushes leave on record (R43, R176). -/
theorem State.pushWord_push_trace (w : Word) (v : Byte) :
    ((s.pushWord w).push v).trace = .write (stackAddr (s.sp - 2)) v :: .write (stackAddr (s.sp - 1)) (loByte w) ::
      .write (stackAddr s.sp) (hiByte w) :: s.trace := by
  have e : s.sp - 1 - 1 = s.sp - 2 := by rw [BitVec.sub_sub]; rfl
  rw [← e]
  rfl

@[simp] theorem State.takeException_dev (ret : Word) (status : Byte) (vec : Word) :
    (s.takeException ret status vec).dev = s.dev := by
  simp [State.takeException_eq]

theorem State.takeException_mem_frame (ret : Word) (status : Byte) (vec : Word) :
    MemoryKeptExcept [stackAddr s.sp, stackAddr (s.sp - 1), stackAddr (s.sp - 2)] s
      (s.takeException ret status vec) := by
  have e : s.sp - 1 - 1 = s.sp - 2 := by rw [BitVec.sub_sub]; rfl
  have h := MemoryKeptExcept.trans (s.pushWord_mem_frame ret) ((s.pushWord ret).memoryKept_push status)
  rw [show (s.pushWord ret).sp = s.sp - 2 from e] at h
  exact h.congr_mem rfl

/-- A push keeps the canonical form of memory. -/
theorem State.wf_push (v : Byte) (h : s.mem.wf = true) : (s.push v).mem.wf = true :=
  Memory.wf_memWrite h _ _

/-- Taking an exception keeps the canonical form of memory. -/
theorem State.wf_takeException (ret : Word) (status : Byte) (vec : Word) (h : s.mem.wf = true) :
    (s.takeException ret status vec).mem.wf = true :=
  State.wf_push _ _ (State.wf_push _ _ (State.wf_push _ _ h))

/-- One action of the environment keeps the canonical form of memory. -/
theorem State.wf_act (e : EnvAction) (h : s.mem.wf = true) : (s.act e).mem.wf = true := by
  cases e <;> first | exact h | exact Memory.wf_set _ (by simp [isKey, ramSize]; omega) h

/-- The return from interrupt (R159): three reads of the stack, P, PC and S. -/
theorem State.returnFromException_eq (n : Nat) :
    s.returnFromException n =
      { s with
        p := statusFromPulled (s.busByte (stackAddr (s.sp + 1)))
        sp := s.sp + 3
        pc := mkWord (s.busByte (stackAddr (s.sp + 3))) (s.busByte (stackAddr (s.sp + 2)))
        cycles := some n
        trace := .tick n :: .read (stackAddr (s.sp + 3)) (s.busByte (stackAddr (s.sp + 3))) ::
          .read (stackAddr (s.sp + 2)) (s.busByte (stackAddr (s.sp + 2))) ::
          .read (stackAddr (s.sp + 1)) (s.busByte (stackAddr (s.sp + 1))) :: s.trace } := by
  have e2 : s.sp + 1 + 1 = s.sp + 2 := by rw [BitVec.add_assoc]; rfl
  have e3 : s.sp + 1 + 2 = s.sp + 3 := by rw [BitVec.add_assoc]; rfl
  have hb : ∀ q, (s.pull.2.setStatus s.pull.1).busByte (stackAddr q) = s.busByte (stackAddr q) := fun q =>
    busByte_stack (s := s) (t := s.pull.2.setStatus s.pull.1) rfl q
  have hs : (s.pull.2.setStatus s.pull.1).sp = s.sp + 1 := rfl
  simp only [State.returnFromException, State.pullWord_eq, hb, hs, e2, e3]
  rfl

end Sys2Proof.Machine
end

