-- ==== Sys2Proof/Laws/PerInstr.lean ====
section
/-! SUPPORT. Facts about every instruction as syntax, one lemma for each constructor (LAWS.json, "per_instruction"). -/

namespace Sys2Proof.Laws.OpcodeCell

/-- The opcode byte that encodes an instruction names a matrix cell of the instruction's length (R50, R51, R66). -/
def Statement (i : Instr) : Prop :=
  ∃ op operand, encode i = op :: operand ∧ (opcodeEntry op).length = i.length

theorem ldaImm (imm : Byte) : Statement (.ldaImm imm) := ⟨_, _, rfl, rfl⟩
theorem ldaZp (zp : Byte) : Statement (.ldaZp zp) := ⟨_, _, rfl, rfl⟩
theorem ldaZpx (zp : Byte) : Statement (.ldaZpx zp) := ⟨_, _, rfl, rfl⟩
theorem ldaAbs (addr : Word) : Statement (.ldaAbs addr) := ⟨_, _, rfl, rfl⟩
theorem ldaAbsx (addr : Word) : Statement (.ldaAbsx addr) := ⟨_, _, rfl, rfl⟩
theorem ldaAbsy (addr : Word) : Statement (.ldaAbsy addr) := ⟨_, _, rfl, rfl⟩
theorem ldaIndx (zp : Byte) : Statement (.ldaIndx zp) := ⟨_, _, rfl, rfl⟩
theorem ldaIndy (zp : Byte) : Statement (.ldaIndy zp) := ⟨_, _, rfl, rfl⟩
theorem ldxImm (imm : Byte) : Statement (.ldxImm imm) := ⟨_, _, rfl, rfl⟩
theorem ldxZp (zp : Byte) : Statement (.ldxZp zp) := ⟨_, _, rfl, rfl⟩
theorem ldxZpy (zp : Byte) : Statement (.ldxZpy zp) := ⟨_, _, rfl, rfl⟩
theorem ldxAbs (addr : Word) : Statement (.ldxAbs addr) := ⟨_, _, rfl, rfl⟩
theorem ldxAbsy (addr : Word) : Statement (.ldxAbsy addr) := ⟨_, _, rfl, rfl⟩
theorem ldyImm (imm : Byte) : Statement (.ldyImm imm) := ⟨_, _, rfl, rfl⟩
theorem ldyZp (zp : Byte) : Statement (.ldyZp zp) := ⟨_, _, rfl, rfl⟩
theorem ldyZpx (zp : Byte) : Statement (.ldyZpx zp) := ⟨_, _, rfl, rfl⟩
theorem ldyAbs (addr : Word) : Statement (.ldyAbs addr) := ⟨_, _, rfl, rfl⟩
theorem ldyAbsx (addr : Word) : Statement (.ldyAbsx addr) := ⟨_, _, rfl, rfl⟩
theorem staZp (zp : Byte) : Statement (.staZp zp) := ⟨_, _, rfl, rfl⟩
theorem staZpx (zp : Byte) : Statement (.staZpx zp) := ⟨_, _, rfl, rfl⟩
theorem staAbs (addr : Word) : Statement (.staAbs addr) := ⟨_, _, rfl, rfl⟩
theorem staAbsx (addr : Word) : Statement (.staAbsx addr) := ⟨_, _, rfl, rfl⟩
theorem staAbsy (addr : Word) : Statement (.staAbsy addr) := ⟨_, _, rfl, rfl⟩
theorem staIndx (zp : Byte) : Statement (.staIndx zp) := ⟨_, _, rfl, rfl⟩
theorem staIndy (zp : Byte) : Statement (.staIndy zp) := ⟨_, _, rfl, rfl⟩
theorem stxZp (zp : Byte) : Statement (.stxZp zp) := ⟨_, _, rfl, rfl⟩
theorem stxZpy (zp : Byte) : Statement (.stxZpy zp) := ⟨_, _, rfl, rfl⟩
theorem stxAbs (addr : Word) : Statement (.stxAbs addr) := ⟨_, _, rfl, rfl⟩
theorem styZp (zp : Byte) : Statement (.styZp zp) := ⟨_, _, rfl, rfl⟩
theorem styZpx (zp : Byte) : Statement (.styZpx zp) := ⟨_, _, rfl, rfl⟩
theorem styAbs (addr : Word) : Statement (.styAbs addr) := ⟨_, _, rfl, rfl⟩
theorem tax : Statement (.tax) := ⟨_, _, rfl, rfl⟩
theorem tay : Statement (.tay) := ⟨_, _, rfl, rfl⟩
theorem txa : Statement (.txa) := ⟨_, _, rfl, rfl⟩
theorem tya : Statement (.tya) := ⟨_, _, rfl, rfl⟩
theorem tsx : Statement (.tsx) := ⟨_, _, rfl, rfl⟩
theorem txs : Statement (.txs) := ⟨_, _, rfl, rfl⟩
theorem pha : Statement (.pha) := ⟨_, _, rfl, rfl⟩
theorem php : Statement (.php) := ⟨_, _, rfl, rfl⟩
theorem pla : Statement (.pla) := ⟨_, _, rfl, rfl⟩
theorem plp : Statement (.plp) := ⟨_, _, rfl, rfl⟩
theorem adcImm (imm : Byte) : Statement (.adcImm imm) := ⟨_, _, rfl, rfl⟩
theorem adcZp (zp : Byte) : Statement (.adcZp zp) := ⟨_, _, rfl, rfl⟩
theorem adcZpx (zp : Byte) : Statement (.adcZpx zp) := ⟨_, _, rfl, rfl⟩
theorem adcAbs (addr : Word) : Statement (.adcAbs addr) := ⟨_, _, rfl, rfl⟩
theorem adcAbsx (addr : Word) : Statement (.adcAbsx addr) := ⟨_, _, rfl, rfl⟩
theorem adcAbsy (addr : Word) : Statement (.adcAbsy addr) := ⟨_, _, rfl, rfl⟩
theorem adcIndx (zp : Byte) : Statement (.adcIndx zp) := ⟨_, _, rfl, rfl⟩
theorem adcIndy (zp : Byte) : Statement (.adcIndy zp) := ⟨_, _, rfl, rfl⟩
theorem sbcImm (imm : Byte) : Statement (.sbcImm imm) := ⟨_, _, rfl, rfl⟩
theorem sbcZp (zp : Byte) : Statement (.sbcZp zp) := ⟨_, _, rfl, rfl⟩
theorem sbcZpx (zp : Byte) : Statement (.sbcZpx zp) := ⟨_, _, rfl, rfl⟩
theorem sbcAbs (addr : Word) : Statement (.sbcAbs addr) := ⟨_, _, rfl, rfl⟩
theorem sbcAbsx (addr : Word) : Statement (.sbcAbsx addr) := ⟨_, _, rfl, rfl⟩
theorem sbcAbsy (addr : Word) : Statement (.sbcAbsy addr) := ⟨_, _, rfl, rfl⟩
theorem sbcIndx (zp : Byte) : Statement (.sbcIndx zp) := ⟨_, _, rfl, rfl⟩
theorem sbcIndy (zp : Byte) : Statement (.sbcIndy zp) := ⟨_, _, rfl, rfl⟩
theorem cmpImm (imm : Byte) : Statement (.cmpImm imm) := ⟨_, _, rfl, rfl⟩
theorem cmpZp (zp : Byte) : Statement (.cmpZp zp) := ⟨_, _, rfl, rfl⟩
theorem cmpZpx (zp : Byte) : Statement (.cmpZpx zp) := ⟨_, _, rfl, rfl⟩
theorem cmpAbs (addr : Word) : Statement (.cmpAbs addr) := ⟨_, _, rfl, rfl⟩
theorem cmpAbsx (addr : Word) : Statement (.cmpAbsx addr) := ⟨_, _, rfl, rfl⟩
theorem cmpAbsy (addr : Word) : Statement (.cmpAbsy addr) := ⟨_, _, rfl, rfl⟩
theorem cmpIndx (zp : Byte) : Statement (.cmpIndx zp) := ⟨_, _, rfl, rfl⟩
theorem cmpIndy (zp : Byte) : Statement (.cmpIndy zp) := ⟨_, _, rfl, rfl⟩
theorem cpxImm (imm : Byte) : Statement (.cpxImm imm) := ⟨_, _, rfl, rfl⟩
theorem cpxZp (zp : Byte) : Statement (.cpxZp zp) := ⟨_, _, rfl, rfl⟩
theorem cpxAbs (addr : Word) : Statement (.cpxAbs addr) := ⟨_, _, rfl, rfl⟩
theorem cpyImm (imm : Byte) : Statement (.cpyImm imm) := ⟨_, _, rfl, rfl⟩
theorem cpyZp (zp : Byte) : Statement (.cpyZp zp) := ⟨_, _, rfl, rfl⟩
theorem cpyAbs (addr : Word) : Statement (.cpyAbs addr) := ⟨_, _, rfl, rfl⟩
theorem andImm (imm : Byte) : Statement (.andImm imm) := ⟨_, _, rfl, rfl⟩
theorem andZp (zp : Byte) : Statement (.andZp zp) := ⟨_, _, rfl, rfl⟩
theorem andZpx (zp : Byte) : Statement (.andZpx zp) := ⟨_, _, rfl, rfl⟩
theorem andAbs (addr : Word) : Statement (.andAbs addr) := ⟨_, _, rfl, rfl⟩
theorem andAbsx (addr : Word) : Statement (.andAbsx addr) := ⟨_, _, rfl, rfl⟩
theorem andAbsy (addr : Word) : Statement (.andAbsy addr) := ⟨_, _, rfl, rfl⟩
theorem andIndx (zp : Byte) : Statement (.andIndx zp) := ⟨_, _, rfl, rfl⟩
theorem andIndy (zp : Byte) : Statement (.andIndy zp) := ⟨_, _, rfl, rfl⟩
theorem oraImm (imm : Byte) : Statement (.oraImm imm) := ⟨_, _, rfl, rfl⟩
theorem oraZp (zp : Byte) : Statement (.oraZp zp) := ⟨_, _, rfl, rfl⟩
theorem oraZpx (zp : Byte) : Statement (.oraZpx zp) := ⟨_, _, rfl, rfl⟩
theorem oraAbs (addr : Word) : Statement (.oraAbs addr) := ⟨_, _, rfl, rfl⟩
theorem oraAbsx (addr : Word) : Statement (.oraAbsx addr) := ⟨_, _, rfl, rfl⟩
theorem oraAbsy (addr : Word) : Statement (.oraAbsy addr) := ⟨_, _, rfl, rfl⟩
theorem oraIndx (zp : Byte) : Statement (.oraIndx zp) := ⟨_, _, rfl, rfl⟩
theorem oraIndy (zp : Byte) : Statement (.oraIndy zp) := ⟨_, _, rfl, rfl⟩
theorem eorImm (imm : Byte) : Statement (.eorImm imm) := ⟨_, _, rfl, rfl⟩
theorem eorZp (zp : Byte) : Statement (.eorZp zp) := ⟨_, _, rfl, rfl⟩
theorem eorZpx (zp : Byte) : Statement (.eorZpx zp) := ⟨_, _, rfl, rfl⟩
theorem eorAbs (addr : Word) : Statement (.eorAbs addr) := ⟨_, _, rfl, rfl⟩
theorem eorAbsx (addr : Word) : Statement (.eorAbsx addr) := ⟨_, _, rfl, rfl⟩
theorem eorAbsy (addr : Word) : Statement (.eorAbsy addr) := ⟨_, _, rfl, rfl⟩
theorem eorIndx (zp : Byte) : Statement (.eorIndx zp) := ⟨_, _, rfl, rfl⟩
theorem eorIndy (zp : Byte) : Statement (.eorIndy zp) := ⟨_, _, rfl, rfl⟩
theorem bitZp (zp : Byte) : Statement (.bitZp zp) := ⟨_, _, rfl, rfl⟩
theorem bitAbs (addr : Word) : Statement (.bitAbs addr) := ⟨_, _, rfl, rfl⟩
theorem aslAcc : Statement (.aslAcc) := ⟨_, _, rfl, rfl⟩
theorem aslZp (zp : Byte) : Statement (.aslZp zp) := ⟨_, _, rfl, rfl⟩
theorem aslZpx (zp : Byte) : Statement (.aslZpx zp) := ⟨_, _, rfl, rfl⟩
theorem aslAbs (addr : Word) : Statement (.aslAbs addr) := ⟨_, _, rfl, rfl⟩
theorem aslAbsx (addr : Word) : Statement (.aslAbsx addr) := ⟨_, _, rfl, rfl⟩
theorem lsrAcc : Statement (.lsrAcc) := ⟨_, _, rfl, rfl⟩
theorem lsrZp (zp : Byte) : Statement (.lsrZp zp) := ⟨_, _, rfl, rfl⟩
theorem lsrZpx (zp : Byte) : Statement (.lsrZpx zp) := ⟨_, _, rfl, rfl⟩
theorem lsrAbs (addr : Word) : Statement (.lsrAbs addr) := ⟨_, _, rfl, rfl⟩
theorem lsrAbsx (addr : Word) : Statement (.lsrAbsx addr) := ⟨_, _, rfl, rfl⟩
theorem rolAcc : Statement (.rolAcc) := ⟨_, _, rfl, rfl⟩
theorem rolZp (zp : Byte) : Statement (.rolZp zp) := ⟨_, _, rfl, rfl⟩
theorem rolZpx (zp : Byte) : Statement (.rolZpx zp) := ⟨_, _, rfl, rfl⟩
theorem rolAbs (addr : Word) : Statement (.rolAbs addr) := ⟨_, _, rfl, rfl⟩
theorem rolAbsx (addr : Word) : Statement (.rolAbsx addr) := ⟨_, _, rfl, rfl⟩
theorem rorAcc : Statement (.rorAcc) := ⟨_, _, rfl, rfl⟩
theorem rorZp (zp : Byte) : Statement (.rorZp zp) := ⟨_, _, rfl, rfl⟩
theorem rorZpx (zp : Byte) : Statement (.rorZpx zp) := ⟨_, _, rfl, rfl⟩
theorem rorAbs (addr : Word) : Statement (.rorAbs addr) := ⟨_, _, rfl, rfl⟩
theorem rorAbsx (addr : Word) : Statement (.rorAbsx addr) := ⟨_, _, rfl, rfl⟩
theorem incZp (zp : Byte) : Statement (.incZp zp) := ⟨_, _, rfl, rfl⟩
theorem incZpx (zp : Byte) : Statement (.incZpx zp) := ⟨_, _, rfl, rfl⟩
theorem incAbs (addr : Word) : Statement (.incAbs addr) := ⟨_, _, rfl, rfl⟩
theorem incAbsx (addr : Word) : Statement (.incAbsx addr) := ⟨_, _, rfl, rfl⟩
theorem decZp (zp : Byte) : Statement (.decZp zp) := ⟨_, _, rfl, rfl⟩
theorem decZpx (zp : Byte) : Statement (.decZpx zp) := ⟨_, _, rfl, rfl⟩
theorem decAbs (addr : Word) : Statement (.decAbs addr) := ⟨_, _, rfl, rfl⟩
theorem decAbsx (addr : Word) : Statement (.decAbsx addr) := ⟨_, _, rfl, rfl⟩
theorem inx : Statement (.inx) := ⟨_, _, rfl, rfl⟩
theorem iny : Statement (.iny) := ⟨_, _, rfl, rfl⟩
theorem dex : Statement (.dex) := ⟨_, _, rfl, rfl⟩
theorem dey : Statement (.dey) := ⟨_, _, rfl, rfl⟩
theorem jmpAbs (addr : Word) : Statement (.jmpAbs addr) := ⟨_, _, rfl, rfl⟩
theorem jmpInd (ptr : Word) : Statement (.jmpInd ptr) := ⟨_, _, rfl, rfl⟩
theorem jsr (addr : Word) : Statement (.jsr addr) := ⟨_, _, rfl, rfl⟩
theorem rts : Statement (.rts) := ⟨_, _, rfl, rfl⟩
theorem bpl (rel : Byte) : Statement (.bpl rel) := ⟨_, _, rfl, rfl⟩
theorem bmi (rel : Byte) : Statement (.bmi rel) := ⟨_, _, rfl, rfl⟩
theorem bvc (rel : Byte) : Statement (.bvc rel) := ⟨_, _, rfl, rfl⟩
theorem bvs (rel : Byte) : Statement (.bvs rel) := ⟨_, _, rfl, rfl⟩
theorem bcc (rel : Byte) : Statement (.bcc rel) := ⟨_, _, rfl, rfl⟩
theorem bcs (rel : Byte) : Statement (.bcs rel) := ⟨_, _, rfl, rfl⟩
theorem bne (rel : Byte) : Statement (.bne rel) := ⟨_, _, rfl, rfl⟩
theorem beq (rel : Byte) : Statement (.beq rel) := ⟨_, _, rfl, rfl⟩
theorem clc : Statement (.clc) := ⟨_, _, rfl, rfl⟩
theorem sec : Statement (.sec) := ⟨_, _, rfl, rfl⟩
theorem cli : Statement (.cli) := ⟨_, _, rfl, rfl⟩
theorem sei : Statement (.sei) := ⟨_, _, rfl, rfl⟩
theorem clv : Statement (.clv) := ⟨_, _, rfl, rfl⟩
theorem cld : Statement (.cld) := ⟨_, _, rfl, rfl⟩
theorem sed : Statement (.sed) := ⟨_, _, rfl, rfl⟩
theorem nop : Statement (.nop) := ⟨_, _, rfl, rfl⟩
theorem brk : Statement (.brk) := ⟨_, _, rfl, rfl⟩
theorem rti : Statement (.rti) := ⟨_, _, rfl, rfl⟩
theorem illegal02 : Statement (.illegal02) := ⟨_, _, rfl, rfl⟩
theorem illegal03 : Statement (.illegal03) := ⟨_, _, rfl, rfl⟩
theorem illegal04 : Statement (.illegal04) := ⟨_, _, rfl, rfl⟩
theorem illegal07 : Statement (.illegal07) := ⟨_, _, rfl, rfl⟩
theorem illegal0B : Statement (.illegal0B) := ⟨_, _, rfl, rfl⟩
theorem illegal0C : Statement (.illegal0C) := ⟨_, _, rfl, rfl⟩
theorem illegal0F : Statement (.illegal0F) := ⟨_, _, rfl, rfl⟩
theorem illegal12 : Statement (.illegal12) := ⟨_, _, rfl, rfl⟩
theorem illegal13 : Statement (.illegal13) := ⟨_, _, rfl, rfl⟩
theorem illegal14 : Statement (.illegal14) := ⟨_, _, rfl, rfl⟩
theorem illegal17 : Statement (.illegal17) := ⟨_, _, rfl, rfl⟩
theorem illegal1A : Statement (.illegal1A) := ⟨_, _, rfl, rfl⟩
theorem illegal1B : Statement (.illegal1B) := ⟨_, _, rfl, rfl⟩
theorem illegal1C : Statement (.illegal1C) := ⟨_, _, rfl, rfl⟩
theorem illegal1F : Statement (.illegal1F) := ⟨_, _, rfl, rfl⟩
theorem illegal22 : Statement (.illegal22) := ⟨_, _, rfl, rfl⟩
theorem illegal23 : Statement (.illegal23) := ⟨_, _, rfl, rfl⟩
theorem illegal27 : Statement (.illegal27) := ⟨_, _, rfl, rfl⟩
theorem illegal2B : Statement (.illegal2B) := ⟨_, _, rfl, rfl⟩
theorem illegal2F : Statement (.illegal2F) := ⟨_, _, rfl, rfl⟩
theorem illegal32 : Statement (.illegal32) := ⟨_, _, rfl, rfl⟩
theorem illegal33 : Statement (.illegal33) := ⟨_, _, rfl, rfl⟩
theorem illegal34 : Statement (.illegal34) := ⟨_, _, rfl, rfl⟩
theorem illegal37 : Statement (.illegal37) := ⟨_, _, rfl, rfl⟩
theorem illegal3A : Statement (.illegal3A) := ⟨_, _, rfl, rfl⟩
theorem illegal3B : Statement (.illegal3B) := ⟨_, _, rfl, rfl⟩
theorem illegal3C : Statement (.illegal3C) := ⟨_, _, rfl, rfl⟩
theorem illegal3F : Statement (.illegal3F) := ⟨_, _, rfl, rfl⟩
theorem illegal42 : Statement (.illegal42) := ⟨_, _, rfl, rfl⟩
theorem illegal43 : Statement (.illegal43) := ⟨_, _, rfl, rfl⟩
theorem illegal44 : Statement (.illegal44) := ⟨_, _, rfl, rfl⟩
theorem illegal47 : Statement (.illegal47) := ⟨_, _, rfl, rfl⟩
theorem illegal4B : Statement (.illegal4B) := ⟨_, _, rfl, rfl⟩
theorem illegal4F : Statement (.illegal4F) := ⟨_, _, rfl, rfl⟩
theorem illegal52 : Statement (.illegal52) := ⟨_, _, rfl, rfl⟩
theorem illegal53 : Statement (.illegal53) := ⟨_, _, rfl, rfl⟩
theorem illegal54 : Statement (.illegal54) := ⟨_, _, rfl, rfl⟩
theorem illegal57 : Statement (.illegal57) := ⟨_, _, rfl, rfl⟩
theorem illegal5A : Statement (.illegal5A) := ⟨_, _, rfl, rfl⟩
theorem illegal5B : Statement (.illegal5B) := ⟨_, _, rfl, rfl⟩
theorem illegal5C : Statement (.illegal5C) := ⟨_, _, rfl, rfl⟩
theorem illegal5F : Statement (.illegal5F) := ⟨_, _, rfl, rfl⟩
theorem illegal62 : Statement (.illegal62) := ⟨_, _, rfl, rfl⟩
theorem illegal63 : Statement (.illegal63) := ⟨_, _, rfl, rfl⟩
theorem illegal64 : Statement (.illegal64) := ⟨_, _, rfl, rfl⟩
theorem illegal67 : Statement (.illegal67) := ⟨_, _, rfl, rfl⟩
theorem illegal6B : Statement (.illegal6B) := ⟨_, _, rfl, rfl⟩
theorem illegal6F : Statement (.illegal6F) := ⟨_, _, rfl, rfl⟩
theorem illegal72 : Statement (.illegal72) := ⟨_, _, rfl, rfl⟩
theorem illegal73 : Statement (.illegal73) := ⟨_, _, rfl, rfl⟩
theorem illegal74 : Statement (.illegal74) := ⟨_, _, rfl, rfl⟩
theorem illegal77 : Statement (.illegal77) := ⟨_, _, rfl, rfl⟩
theorem illegal7A : Statement (.illegal7A) := ⟨_, _, rfl, rfl⟩
theorem illegal7B : Statement (.illegal7B) := ⟨_, _, rfl, rfl⟩
theorem illegal7C : Statement (.illegal7C) := ⟨_, _, rfl, rfl⟩
theorem illegal7F : Statement (.illegal7F) := ⟨_, _, rfl, rfl⟩
theorem illegal80 : Statement (.illegal80) := ⟨_, _, rfl, rfl⟩
theorem illegal82 : Statement (.illegal82) := ⟨_, _, rfl, rfl⟩
theorem illegal83 : Statement (.illegal83) := ⟨_, _, rfl, rfl⟩
theorem illegal87 : Statement (.illegal87) := ⟨_, _, rfl, rfl⟩
theorem illegal89 : Statement (.illegal89) := ⟨_, _, rfl, rfl⟩
theorem illegal8B : Statement (.illegal8B) := ⟨_, _, rfl, rfl⟩
theorem illegal8F : Statement (.illegal8F) := ⟨_, _, rfl, rfl⟩
theorem illegal92 : Statement (.illegal92) := ⟨_, _, rfl, rfl⟩
theorem illegal93 : Statement (.illegal93) := ⟨_, _, rfl, rfl⟩
theorem illegal97 : Statement (.illegal97) := ⟨_, _, rfl, rfl⟩
theorem illegal9B : Statement (.illegal9B) := ⟨_, _, rfl, rfl⟩
theorem illegal9C : Statement (.illegal9C) := ⟨_, _, rfl, rfl⟩
theorem illegal9E : Statement (.illegal9E) := ⟨_, _, rfl, rfl⟩
theorem illegal9F : Statement (.illegal9F) := ⟨_, _, rfl, rfl⟩
theorem illegalA3 : Statement (.illegalA3) := ⟨_, _, rfl, rfl⟩
theorem illegalA7 : Statement (.illegalA7) := ⟨_, _, rfl, rfl⟩
theorem illegalAB : Statement (.illegalAB) := ⟨_, _, rfl, rfl⟩
theorem illegalAF : Statement (.illegalAF) := ⟨_, _, rfl, rfl⟩
theorem illegalB2 : Statement (.illegalB2) := ⟨_, _, rfl, rfl⟩
theorem illegalB3 : Statement (.illegalB3) := ⟨_, _, rfl, rfl⟩
theorem illegalB7 : Statement (.illegalB7) := ⟨_, _, rfl, rfl⟩
theorem illegalBB : Statement (.illegalBB) := ⟨_, _, rfl, rfl⟩
theorem illegalBF : Statement (.illegalBF) := ⟨_, _, rfl, rfl⟩
theorem illegalC2 : Statement (.illegalC2) := ⟨_, _, rfl, rfl⟩
theorem illegalC3 : Statement (.illegalC3) := ⟨_, _, rfl, rfl⟩
theorem illegalC7 : Statement (.illegalC7) := ⟨_, _, rfl, rfl⟩
theorem illegalCB : Statement (.illegalCB) := ⟨_, _, rfl, rfl⟩
theorem illegalCF : Statement (.illegalCF) := ⟨_, _, rfl, rfl⟩
theorem illegalD2 : Statement (.illegalD2) := ⟨_, _, rfl, rfl⟩
theorem illegalD3 : Statement (.illegalD3) := ⟨_, _, rfl, rfl⟩
theorem illegalD4 : Statement (.illegalD4) := ⟨_, _, rfl, rfl⟩
theorem illegalD7 : Statement (.illegalD7) := ⟨_, _, rfl, rfl⟩
theorem illegalDA : Statement (.illegalDA) := ⟨_, _, rfl, rfl⟩
theorem illegalDB : Statement (.illegalDB) := ⟨_, _, rfl, rfl⟩
theorem illegalDC : Statement (.illegalDC) := ⟨_, _, rfl, rfl⟩
theorem illegalDF : Statement (.illegalDF) := ⟨_, _, rfl, rfl⟩
theorem illegalE2 : Statement (.illegalE2) := ⟨_, _, rfl, rfl⟩
theorem illegalE3 : Statement (.illegalE3) := ⟨_, _, rfl, rfl⟩
theorem illegalE7 : Statement (.illegalE7) := ⟨_, _, rfl, rfl⟩
theorem illegalEB : Statement (.illegalEB) := ⟨_, _, rfl, rfl⟩
theorem illegalEF : Statement (.illegalEF) := ⟨_, _, rfl, rfl⟩
theorem illegalF2 : Statement (.illegalF2) := ⟨_, _, rfl, rfl⟩
theorem illegalF3 : Statement (.illegalF3) := ⟨_, _, rfl, rfl⟩
theorem illegalF4 : Statement (.illegalF4) := ⟨_, _, rfl, rfl⟩
theorem illegalF7 : Statement (.illegalF7) := ⟨_, _, rfl, rfl⟩
theorem illegalFA : Statement (.illegalFA) := ⟨_, _, rfl, rfl⟩
theorem illegalFB : Statement (.illegalFB) := ⟨_, _, rfl, rfl⟩
theorem illegalFC : Statement (.illegalFC) := ⟨_, _, rfl, rfl⟩
theorem illegalFF : Statement (.illegalFF) := ⟨_, _, rfl, rfl⟩

end Sys2Proof.Laws.OpcodeCell
end

