-- ==== Sys2Proof/Laws/Step.lean ====
section
/-! SUPPORT. What a step can be, said once (`step_cases`), the step of a state ready to fetch, and what the fetch and the
environment's actions leave unchanged (R52, R174). -/

namespace Sys2Proof.Machine

/-- A step that answers a next state is an NMI entry, an IRQ entry, or the fetched instruction (R174). -/
theorem step_cases {s t : State} (h : step s = .next t) :
    t = s.applyInputs.enterNmi ∨ t = s.applyInputs.enterIrq ∨
      exec s.applyInputs.fetch.1 s.applyInputs.fetch.2 = .next t := by
  unfold step at h
  split at h <;> simp_all

theorem applyInputs_nil {s : State} (h : s.inputs = []) : s.applyInputs = s := by
  simp [State.applyInputs, h]

theorem poll_ready {s : State} (h : s.ReadyToFetch) : s.poll = .instruction := by
  obtain ⟨-, h2, h3, h4⟩ := h
  simpa [State.poll, h2, h3] using h4

theorem step_ready {s : State} (h : s.ReadyToFetch) : step s = exec s.fetch.1 s.fetch.2 := by
  simp [step, applyInputs_nil h.1, poll_ready h]

/-- The fetch changes nothing of the machine but the record of the bus. -/
theorem fetch_st (s : State) : s.fetch.2 = { s with trace := s.fetch.2.trace } := by
  unfold State.fetch
  dsimp only
  split <;> rfl

/-- Without a reset the environment's actions leave the fault latch (R18). -/
theorem actAll_fault (now : List EnvAction) (s : State) (h : .reset ∉ now) : (State.actAll now s).fault = s.fault := by
  induction now generalizing s with
  | nil => rfl
  | cons e r ih =>
    simp only [List.mem_cons, not_or] at h
    rw [State.actAll, ih _ h.2]
    cases e <;> first | rfl | simp at h

/-- A list of actions keeps what each single action keeps. -/
theorem actAll_keeps {P : State → Prop} (hP : ∀ e s, P s → P (s.act e)) (now : List EnvAction) {s : State} (h : P s) :
    P (State.actAll now s) := by
  induction now generalizing s with
  | nil => exact h
  | cons e r ih => exact ih (hP e s h)

end Sys2Proof.Machine
end

