-- ==== Sys2Proof/Tests/Slice0.lean ====
section
/-! SUPPORT. Tests: every word of the opcode table decoded, the checks refused, one step of each mnemonic from the test
vectors of spec/95_test_vectors.md, and a witness for the hypotheses of each obligation.  The expected values are the
spec's, row by row. -/

namespace Sys2Proof.Tests

open Sys2Proof Sys2Proof.Machine

/-! ### Decoding: each word of spec/opcode_table.json, 16 rows of 16, operands 0x10 and 0x1234 -/

theorem test_decode_row_0 :
    ([
      (8, 0x00), (16, 0x1001), (8, 0x02), (8, 0x03), (8, 0x04), (16, 0x1005), (16, 0x1006), (8, 0x07), (8, 0x08),
      (16, 0x1009), (8, 0x0A), (8, 0x0B), (8, 0x0C), (24, 0x12340D), (24, 0x12340E), (8, 0x0F)
    ] : List (Nat × Nat)).map (fun p => decodeTableWord p.1 p.2) =
    ([
      .brk, .oraIndx 0x10, .illegal02, .illegal03, .illegal04, .oraZp 0x10, .aslZp 0x10, .illegal07, .php,
      .oraImm 0x10, .aslAcc, .illegal0B, .illegal0C, .oraAbs 0x1234, .aslAbs 0x1234, .illegal0F
    ] : List Instr).map some := by decide

theorem test_decode_row_1 :
    ([
      (16, 0x1010), (16, 0x1011), (8, 0x12), (8, 0x13), (8, 0x14), (16, 0x1015), (16, 0x1016), (8, 0x17),
      (8, 0x18), (24, 0x123419), (8, 0x1A), (8, 0x1B), (8, 0x1C), (24, 0x12341D), (24, 0x12341E), (8, 0x1F)
    ] : List (Nat × Nat)).map (fun p => decodeTableWord p.1 p.2) =
    ([
      .bpl 0x10, .oraIndy 0x10, .illegal12, .illegal13, .illegal14, .oraZpx 0x10, .aslZpx 0x10, .illegal17, .clc,
      .oraAbsy 0x1234, .illegal1A, .illegal1B, .illegal1C, .oraAbsx 0x1234, .aslAbsx 0x1234, .illegal1F
    ] : List Instr).map some := by decide

theorem test_decode_row_2 :
    ([
      (24, 0x123420), (16, 0x1021), (8, 0x22), (8, 0x23), (16, 0x1024), (16, 0x1025), (16, 0x1026), (8, 0x27),
      (8, 0x28), (16, 0x1029), (8, 0x2A), (8, 0x2B), (24, 0x12342C), (24, 0x12342D), (24, 0x12342E), (8, 0x2F)
    ] : List (Nat × Nat)).map (fun p => decodeTableWord p.1 p.2) =
    ([
      .jsr 0x1234, .andIndx 0x10, .illegal22, .illegal23, .bitZp 0x10, .andZp 0x10, .rolZp 0x10, .illegal27, .plp,
      .andImm 0x10, .rolAcc, .illegal2B, .bitAbs 0x1234, .andAbs 0x1234, .rolAbs 0x1234, .illegal2F
    ] : List Instr).map some := by decide

theorem test_decode_row_3 :
    ([
      (16, 0x1030), (16, 0x1031), (8, 0x32), (8, 0x33), (8, 0x34), (16, 0x1035), (16, 0x1036), (8, 0x37),
      (8, 0x38), (24, 0x123439), (8, 0x3A), (8, 0x3B), (8, 0x3C), (24, 0x12343D), (24, 0x12343E), (8, 0x3F)
    ] : List (Nat × Nat)).map (fun p => decodeTableWord p.1 p.2) =
    ([
      .bmi 0x10, .andIndy 0x10, .illegal32, .illegal33, .illegal34, .andZpx 0x10, .rolZpx 0x10, .illegal37, .sec,
      .andAbsy 0x1234, .illegal3A, .illegal3B, .illegal3C, .andAbsx 0x1234, .rolAbsx 0x1234, .illegal3F
    ] : List Instr).map some := by decide

theorem test_decode_row_4 :
    ([
      (8, 0x40), (16, 0x1041), (8, 0x42), (8, 0x43), (8, 0x44), (16, 0x1045), (16, 0x1046), (8, 0x47), (8, 0x48),
      (16, 0x1049), (8, 0x4A), (8, 0x4B), (24, 0x12344C), (24, 0x12344D), (24, 0x12344E), (8, 0x4F)
    ] : List (Nat × Nat)).map (fun p => decodeTableWord p.1 p.2) =
    ([
      .rti, .eorIndx 0x10, .illegal42, .illegal43, .illegal44, .eorZp 0x10, .lsrZp 0x10, .illegal47, .pha,
      .eorImm 0x10, .lsrAcc, .illegal4B, .jmpAbs 0x1234, .eorAbs 0x1234, .lsrAbs 0x1234, .illegal4F
    ] : List Instr).map some := by decide

theorem test_decode_row_5 :
    ([
      (16, 0x1050), (16, 0x1051), (8, 0x52), (8, 0x53), (8, 0x54), (16, 0x1055), (16, 0x1056), (8, 0x57),
      (8, 0x58), (24, 0x123459), (8, 0x5A), (8, 0x5B), (8, 0x5C), (24, 0x12345D), (24, 0x12345E), (8, 0x5F)
    ] : List (Nat × Nat)).map (fun p => decodeTableWord p.1 p.2) =
    ([
      .bvc 0x10, .eorIndy 0x10, .illegal52, .illegal53, .illegal54, .eorZpx 0x10, .lsrZpx 0x10, .illegal57, .cli,
      .eorAbsy 0x1234, .illegal5A, .illegal5B, .illegal5C, .eorAbsx 0x1234, .lsrAbsx 0x1234, .illegal5F
    ] : List Instr).map some := by decide

theorem test_decode_row_6 :
    ([
      (8, 0x60), (16, 0x1061), (8, 0x62), (8, 0x63), (8, 0x64), (16, 0x1065), (16, 0x1066), (8, 0x67), (8, 0x68),
      (16, 0x1069), (8, 0x6A), (8, 0x6B), (24, 0x12346C), (24, 0x12346D), (24, 0x12346E), (8, 0x6F)
    ] : List (Nat × Nat)).map (fun p => decodeTableWord p.1 p.2) =
    ([
      .rts, .adcIndx 0x10, .illegal62, .illegal63, .illegal64, .adcZp 0x10, .rorZp 0x10, .illegal67, .pla,
      .adcImm 0x10, .rorAcc, .illegal6B, .jmpInd 0x1234, .adcAbs 0x1234, .rorAbs 0x1234, .illegal6F
    ] : List Instr).map some := by decide

theorem test_decode_row_7 :
    ([
      (16, 0x1070), (16, 0x1071), (8, 0x72), (8, 0x73), (8, 0x74), (16, 0x1075), (16, 0x1076), (8, 0x77),
      (8, 0x78), (24, 0x123479), (8, 0x7A), (8, 0x7B), (8, 0x7C), (24, 0x12347D), (24, 0x12347E), (8, 0x7F)
    ] : List (Nat × Nat)).map (fun p => decodeTableWord p.1 p.2) =
    ([
      .bvs 0x10, .adcIndy 0x10, .illegal72, .illegal73, .illegal74, .adcZpx 0x10, .rorZpx 0x10, .illegal77, .sei,
      .adcAbsy 0x1234, .illegal7A, .illegal7B, .illegal7C, .adcAbsx 0x1234, .rorAbsx 0x1234, .illegal7F
    ] : List Instr).map some := by decide

theorem test_decode_row_8 :
    ([
      (8, 0x80), (16, 0x1081), (8, 0x82), (8, 0x83), (16, 0x1084), (16, 0x1085), (16, 0x1086), (8, 0x87),
      (8, 0x88), (8, 0x89), (8, 0x8A), (8, 0x8B), (24, 0x12348C), (24, 0x12348D), (24, 0x12348E), (8, 0x8F)
    ] : List (Nat × Nat)).map (fun p => decodeTableWord p.1 p.2) =
    ([
      .illegal80, .staIndx 0x10, .illegal82, .illegal83, .styZp 0x10, .staZp 0x10, .stxZp 0x10, .illegal87, .dey,
      .illegal89, .txa, .illegal8B, .styAbs 0x1234, .staAbs 0x1234, .stxAbs 0x1234, .illegal8F
    ] : List Instr).map some := by decide

theorem test_decode_row_9 :
    ([
      (16, 0x1090), (16, 0x1091), (8, 0x92), (8, 0x93), (16, 0x1094), (16, 0x1095), (16, 0x1096), (8, 0x97),
      (8, 0x98), (24, 0x123499), (8, 0x9A), (8, 0x9B), (8, 0x9C), (24, 0x12349D), (8, 0x9E), (8, 0x9F)
    ] : List (Nat × Nat)).map (fun p => decodeTableWord p.1 p.2) =
    ([
      .bcc 0x10, .staIndy 0x10, .illegal92, .illegal93, .styZpx 0x10, .staZpx 0x10, .stxZpy 0x10, .illegal97, .tya,
      .staAbsy 0x1234, .txs, .illegal9B, .illegal9C, .staAbsx 0x1234, .illegal9E, .illegal9F
    ] : List Instr).map some := by decide

theorem test_decode_row_A :
    ([
      (16, 0x10A0), (16, 0x10A1), (16, 0x10A2), (8, 0xA3), (16, 0x10A4), (16, 0x10A5), (16, 0x10A6), (8, 0xA7),
      (8, 0xA8), (16, 0x10A9), (8, 0xAA), (8, 0xAB), (24, 0x1234AC), (24, 0x1234AD), (24, 0x1234AE), (8, 0xAF)
    ] : List (Nat × Nat)).map (fun p => decodeTableWord p.1 p.2) =
    ([
      .ldyImm 0x10, .ldaIndx 0x10, .ldxImm 0x10, .illegalA3, .ldyZp 0x10, .ldaZp 0x10, .ldxZp 0x10, .illegalA7,
      .tay, .ldaImm 0x10, .tax, .illegalAB, .ldyAbs 0x1234, .ldaAbs 0x1234, .ldxAbs 0x1234, .illegalAF
    ] : List Instr).map some := by decide

theorem test_decode_row_B :
    ([
      (16, 0x10B0), (16, 0x10B1), (8, 0xB2), (8, 0xB3), (16, 0x10B4), (16, 0x10B5), (16, 0x10B6), (8, 0xB7),
      (8, 0xB8), (24, 0x1234B9), (8, 0xBA), (8, 0xBB), (24, 0x1234BC), (24, 0x1234BD), (24, 0x1234BE), (8, 0xBF)
    ] : List (Nat × Nat)).map (fun p => decodeTableWord p.1 p.2) =
    ([
      .bcs 0x10, .ldaIndy 0x10, .illegalB2, .illegalB3, .ldyZpx 0x10, .ldaZpx 0x10, .ldxZpy 0x10, .illegalB7, .clv,
      .ldaAbsy 0x1234, .tsx, .illegalBB, .ldyAbsx 0x1234, .ldaAbsx 0x1234, .ldxAbsy 0x1234, .illegalBF
    ] : List Instr).map some := by decide

theorem test_decode_row_C :
    ([
      (16, 0x10C0), (16, 0x10C1), (8, 0xC2), (8, 0xC3), (16, 0x10C4), (16, 0x10C5), (16, 0x10C6), (8, 0xC7),
      (8, 0xC8), (16, 0x10C9), (8, 0xCA), (8, 0xCB), (24, 0x1234CC), (24, 0x1234CD), (24, 0x1234CE), (8, 0xCF)
    ] : List (Nat × Nat)).map (fun p => decodeTableWord p.1 p.2) =
    ([
      .cpyImm 0x10, .cmpIndx 0x10, .illegalC2, .illegalC3, .cpyZp 0x10, .cmpZp 0x10, .decZp 0x10, .illegalC7, .iny,
      .cmpImm 0x10, .dex, .illegalCB, .cpyAbs 0x1234, .cmpAbs 0x1234, .decAbs 0x1234, .illegalCF
    ] : List Instr).map some := by decide

theorem test_decode_row_D :
    ([
      (16, 0x10D0), (16, 0x10D1), (8, 0xD2), (8, 0xD3), (8, 0xD4), (16, 0x10D5), (16, 0x10D6), (8, 0xD7),
      (8, 0xD8), (24, 0x1234D9), (8, 0xDA), (8, 0xDB), (8, 0xDC), (24, 0x1234DD), (24, 0x1234DE), (8, 0xDF)
    ] : List (Nat × Nat)).map (fun p => decodeTableWord p.1 p.2) =
    ([
      .bne 0x10, .cmpIndy 0x10, .illegalD2, .illegalD3, .illegalD4, .cmpZpx 0x10, .decZpx 0x10, .illegalD7, .cld,
      .cmpAbsy 0x1234, .illegalDA, .illegalDB, .illegalDC, .cmpAbsx 0x1234, .decAbsx 0x1234, .illegalDF
    ] : List Instr).map some := by decide

theorem test_decode_row_E :
    ([
      (16, 0x10E0), (16, 0x10E1), (8, 0xE2), (8, 0xE3), (16, 0x10E4), (16, 0x10E5), (16, 0x10E6), (8, 0xE7),
      (8, 0xE8), (16, 0x10E9), (8, 0xEA), (8, 0xEB), (24, 0x1234EC), (24, 0x1234ED), (24, 0x1234EE), (8, 0xEF)
    ] : List (Nat × Nat)).map (fun p => decodeTableWord p.1 p.2) =
    ([
      .cpxImm 0x10, .sbcIndx 0x10, .illegalE2, .illegalE3, .cpxZp 0x10, .sbcZp 0x10, .incZp 0x10, .illegalE7, .inx,
      .sbcImm 0x10, .nop, .illegalEB, .cpxAbs 0x1234, .sbcAbs 0x1234, .incAbs 0x1234, .illegalEF
    ] : List Instr).map some := by decide

theorem test_decode_row_F :
    ([
      (16, 0x10F0), (16, 0x10F1), (8, 0xF2), (8, 0xF3), (8, 0xF4), (16, 0x10F5), (16, 0x10F6), (8, 0xF7),
      (8, 0xF8), (24, 0x1234F9), (8, 0xFA), (8, 0xFB), (8, 0xFC), (24, 0x1234FD), (24, 0x1234FE), (8, 0xFF)
    ] : List (Nat × Nat)).map (fun p => decodeTableWord p.1 p.2) =
    ([
      .beq 0x10, .sbcIndy 0x10, .illegalF2, .illegalF3, .illegalF4, .sbcZpx 0x10, .incZpx 0x10, .illegalF7, .sed,
      .sbcAbsy 0x1234, .illegalFA, .illegalFB, .illegalFC, .sbcAbsx 0x1234, .incAbsx 0x1234, .illegalFF
    ] : List Instr).map some := by decide

/-! ### What the checks refuse

Every operand value of every format is legal (R67), so `Instr.WellFormed` has no check and no term is ill-formed;
`Instr.isAssigned` tells the 105 unassigned bytes apart, and the decoder refuses by name what is not a whole
instruction. -/

theorem test_unassigned_not_assigned : (Instr.illegal02).isAssigned = false := by decide

theorem test_assigned : (Instr.ldaAbs 0x1234).isAssigned = true := by decide

theorem test_wellFormed_unassigned : (Instr.illegalFF).WellFormed = true := by decide

theorem test_refuse_no_bytes : decode [] = .error .noBytes := by decide

theorem test_refuse_truncated : decode [0xAD, 0x34] = .error (.truncated 0xAD) := by decide

/-! ### One step of each mnemonic -/

/-- A quiet machine at `pc`: S and P as reset leaves them, the other registers 0, the bytes of `mem` known. -/
def at_ (pc : Word) (bytes : List Host.Cell) : State :=
  { State.reset with
    pc := pc, mem := bytes.filter (·.1 < 0x800), dev := .flatRom (bytes.filter (0x8000 ≤ ·.1)), trace := [] }

/-- Something of the state a step leaves. -/
def after {α : Type} (s : State) (f : State → α) : Option α :=
  match step s with
  | .next t => some (f t)
  | .fault _ | .refused _ => none

/-- The fault a step stops with. -/
def stop (s : State) : Option Fault :=
  match step s with
  | .fault f => some f
  | .next _ | .refused _ => none

/-- The bytes written on the bus, oldest first. -/
def writes : List Event → List (Nat × Byte)
  | [] => []
  | .write a v :: rest => writes rest ++ [(a.toNat, v)]
  | .read _ _ :: rest | .tick _ :: rest | .outside _ :: rest => writes rest

/-- V8 (R80,R60,R68). -/
theorem test_lda_absx_crosses :
    after { at_ 0x0600 [(0x300, 0x22), (0x600, 0xBD), (0x601, 0xF0), (0x602, 0x02)] with x := 0x10 }
      (fun t => (t.a, t.p, t.cycles)) =
      some (0x22, 0x24, some 5) := by decide

/-- V17 (R80,R37,R42): 0x2000-0x7FFF of the fixture reads as 0x00. -/
theorem test_lda_flatRom_below_rom :
    after { at_ 0x0600 [(0x600, 0xAD), (0x601, 0x02), (0x602, 0x20)] with a := 0x55 }
      (fun t => (t.a, t.p, t.cycles, t.trace.take 2)) =
      some (0x00, 0x26, some 4, [.tick 4, .read 0x2002 0x00]) := by decide

/-- R42, D19: `rom[addr]`, 0x00 by default, and a write there is ignored. -/
theorem test_flatRom_reads_and_writes :
    let s := at_ 0x0600 [(0x9000, 0x40)]
    (s.busByte 0x9000, s.busByte 0x9001, (s.memWrite 0x9000 0x55).busByte 0x9000) = (0x40, 0x00, 0x40) := by decide

/-- V16 (R80,R64). -/
theorem test_lda_indy_pointer_wraps :
    after { at_ 0x0600 [(0x0, 0x03), (0xFF, 0x00), (0x100, 0x07), (0x302, 0x77), (0x600, 0xB1), (0x601, 0xFF)] with y := 0x02 }
      (fun t => (t.a, t.p, t.cycles)) =
      some (0x77, 0x24, some 5) := by decide

/-- V20 (R81,R58). -/
theorem test_ldx_zpy_wraps :
    after { at_ 0x0600 [(0x5, 0x12), (0x105, 0x99), (0x600, 0xB6), (0x601, 0x10)] with y := 0xF5 }
      (fun t => (t.x, t.p, t.cycles)) =
      some (0x12, 0x24, some 4) := by decide

/-- V21 (R81,R61,R68). -/
theorem test_ldx_absy_crosses :
    after { at_ 0x0600 [(0x300, 0x00), (0x600, 0xBE), (0x601, 0xF0), (0x602, 0x02)] with y := 0x10 }
      (fun t => (t.p, t.cycles)) =
      some (0x26, some 5) := by decide

/-- V23 (R82,R57). -/
theorem test_ldy_zpx :
    after { at_ 0x0600 [(0x11, 0x80), (0x600, 0xB4), (0x601, 0x10)] with x := 0x01 } (fun t => (t.y, t.p, t.cycles)) =
      some (0x80, 0xA4, some 4) := by decide

/-- V24 (R82,R60,R68). -/
theorem test_ldy_absx_crosses :
    after { at_ 0x0600 [(0x300, 0x01), (0x600, 0xBC), (0x601, 0xFF), (0x602, 0x02)] with x := 0x01 }
      (fun t => (t.y, t.p, t.cycles)) =
      some (0x01, 0x24, some 5) := by decide

/-- V27 (R83). -/
theorem test_sta_zpx_wraps :
    after { at_ 0x0600 [(0x600, 0x95), (0x601, 0x10)] with a := 0x42, x := 0xF0 }
      (fun t => (t.p, t.cell 0x0000, writes t.trace, t.cycles)) =
      some (0x24, some 0x42, [(0x0000, 0x42)], some 4) := by decide

/-- V32 (R83,R64). -/
theorem test_sta_indy :
    after { at_ 0x0600 [(0x20, 0xF8), (0x21, 0x02), (0x600, 0x91), (0x601, 0x20)] with a := 0x42, y := 0x10 }
      (fun t => (t.p, t.cell 0x0308, writes t.trace, t.cycles)) =
      some (0x24, some 0x42, [(0x0308, 0x42)], some 6) := by decide

/-- V36 (R84,R58). -/
theorem test_stx_zpy_wraps :
    after { at_ 0x0600 [(0x600, 0x96), (0x601, 0xFF)] with x := 0x07, y := 0x01 }
      (fun t => (t.p, t.cell 0x0000, writes t.trace, t.cycles)) =
      some (0x24, some 0x07, [(0x0000, 0x07)], some 4) := by decide

/-- V37 (R84). -/
theorem test_stx_abs :
    after { at_ 0x0600 [(0x600, 0x8E), (0x601, 0x00), (0x602, 0x02)] with x := 0x07 }
      (fun t => (t.p, t.cell 0x0200, writes t.trace, t.cycles)) =
      some (0x24, some 0x07, [(0x0200, 0x07)], some 4) := by decide

/-- V39 (R85,R57). -/
theorem test_sty_zpx :
    after { at_ 0x0600 [(0x600, 0x94), (0x601, 0x10)] with x := 0x05, y := 0x99 }
      (fun t => (t.p, t.cell 0x0015, writes t.trace, t.cycles)) =
      some (0x24, some 0x99, [(0x0015, 0x99)], some 4) := by decide

/-- V42 (R90). -/
theorem test_tax_zero :
    after { at_ 0x0600 [(0x600, 0xAA)] with x := 0x55 } (fun t => (t.x, t.p, t.cycles)) =
      some (0x00, 0x26, some 2) := by decide

/-- V43 (R91). -/
theorem test_tay_zero :
    after { at_ 0x0600 [(0x600, 0xA8)] with y := 0x55 } (fun t => (t.y, t.p, t.cycles)) =
      some (0x00, 0x26, some 2) := by decide

/-- V44 (R92). -/
theorem test_txa_clears_flags :
    after { at_ 0x0600 [(0x600, 0x8A)] with x := 0x7F, p := 0xA6 } (fun t => (t.a, t.p, t.cycles)) =
      some (0x7F, 0x24, some 2) := by decide

/-- V45 (R93). -/
theorem test_tya_negative :
    after { at_ 0x0600 [(0x600, 0x98)] with y := 0xFF } (fun t => (t.a, t.p, t.cycles)) =
      some (0xFF, 0xA4, some 2) := by decide

/-- V47 (R94). -/
theorem test_tsx_zero :
    after { at_ 0x0600 [(0x600, 0xBA)] with x := 0x11, sp := 0x00 } (fun t => (t.x, t.p, t.cycles)) =
      some (0x00, 0x26, some 2) := by decide

/-- V49 (R95). -/
theorem test_txs_keeps_flags :
    after { at_ 0x0600 [(0x600, 0x9A)] with sp := 0x80 } (fun t => (t.sp, t.p, t.cycles)) =
      some (0x00, 0x24, some 2) := by decide

/-- V51 (R96,R13). -/
theorem test_pha_wraps :
    after { at_ 0x0600 [(0x600, 0x48)] with a := 0x42, sp := 0x00 } (fun t => (t.sp, t.p, writes t.trace, t.cycles)) =
      some (0xFF, 0x24, [(0x0100, 0x42)], some 3) := by decide

/-- V53 (R97). -/
theorem test_php_sets_bit_four :
    after { at_ 0x0600 [(0x600, 0x08)] with p := 0xE5 } (fun t => (t.sp, t.p, writes t.trace, t.cycles)) =
      some (0xFC, 0xE5, [(0x01FD, 0xF5)], some 3) := by decide

/-- V55 (R98). -/
theorem test_pla_negative :
    after { at_ 0x0600 [(0x1FD, 0x80), (0x600, 0x68)] with sp := 0xFC } (fun t => (t.a, t.sp, t.p, t.cycles)) =
      some (0x80, 0xFD, 0xA4, some 4) := by decide

/-- V56 (R98,R13). -/
theorem test_pla_wraps :
    after { at_ 0x0600 [(0x100, 0x33), (0x600, 0x68)] with sp := 0xFF } (fun t => (t.a, t.sp, t.p, t.cycles)) =
      some (0x33, 0x00, 0x24, some 4) := by decide

/-- V57 (R99). -/
theorem test_plp_forces_bits :
    after { at_ 0x0600 [(0x1FD, 0xFF), (0x600, 0x28)] with sp := 0xFC } (fun t => (t.sp, t.p, t.cycles)) =
      some (0xFD, 0xEF, some 4) := by decide

/-- V62 (R101). -/
theorem test_adc_overflows :
    after { at_ 0x0600 [(0x600, 0x69), (0x601, 0x01)] with a := 0x7F } (fun t => (t.a, t.p, t.cycles)) =
      some (0x80, 0xE4, some 2) := by decide

/-- V64 (R101). -/
theorem test_adc_carry_in :
    after { at_ 0x0600 [(0x600, 0x69), (0x601, 0xFF)] with a := 0xFF, p := 0x25 } (fun t => (t.p, t.cycles)) =
      some (0xA5, some 2) := by decide

/-- V67 (R101,R100). -/
theorem test_adc_ignores_decimal :
    after { at_ 0x0600 [(0x600, 0x69), (0x601, 0x01)] with a := 0x09, p := 0x2C } (fun t => (t.a, t.p, t.cycles)) =
      some (0x0A, 0x2C, some 2) := by decide

/-- V74 (R102). -/
theorem test_sbc_overflows :
    after { at_ 0x0600 [(0x600, 0xE9), (0x601, 0xB0)] with a := 0x50, p := 0x25 } (fun t => (t.a, t.p, t.cycles)) =
      some (0xA0, 0xE4, some 2) := by decide

/-- V78 (R102). -/
theorem test_sbc_borrows :
    after { at_ 0x0600 [(0x600, 0xE9), (0x601, 0x01)] with a := 0x10 } (fun t => (t.a, t.p, t.cycles)) =
      some (0x0E, 0x25, some 2) := by decide

/-- V87 (R104). -/
theorem test_cmp_keeps_overflow :
    after { at_ 0x0600 [(0x600, 0xC9), (0x601, 0x41)] with a := 0x40, p := 0x65 } (fun t => (t.p, t.cycles)) =
      some (0xE4, some 2) := by decide

/-- V88 (R104). -/
theorem test_cmp_indx :
    after { at_ 0x0600 [(0x22, 0x50), (0x23, 0x03), (0x350, 0x10), (0x600, 0xC1), (0x601, 0x20)] with a := 0x10, x := 0x02 }
      (fun t => (t.p, t.cycles)) =
      some (0x27, some 6) := by decide

/-- V89 (R105). -/
theorem test_cpx_below :
    after { at_ 0x0600 [(0x600, 0xE0), (0x601, 0x06)] with x := 0x05 } (fun t => (t.p, t.cycles)) =
      some (0xA4, some 2) := by decide

/-- V91 (R105). -/
theorem test_cpx_abs :
    after { at_ 0x0600 [(0x200, 0x01), (0x600, 0xEC), (0x601, 0x00), (0x602, 0x02)] with x := 0xFF }
      (fun t => (t.p, t.cycles)) =
      some (0xA5, some 4) := by decide

/-- V92 (R106). -/
theorem test_cpy_above :
    after { at_ 0x0600 [(0x600, 0xC0), (0x601, 0x01)] with y := 0x10 } (fun t => (t.p, t.cycles)) =
      some (0x25, some 2) := by decide

/-- V93 (R106). -/
theorem test_cpy_zp :
    after (at_ 0x0600 [(0x10, 0x01), (0x600, 0xC4), (0x601, 0x10)]) (fun t => (t.p, t.cycles)) =
      some (0xA4, some 3) := by decide

/-- V96 (R110). -/
theorem test_and_negative :
    after { at_ 0x0600 [(0x600, 0x29), (0x601, 0x80)] with a := 0xFF } (fun t => (t.a, t.p, t.cycles)) =
      some (0x80, 0xA4, some 2) := by decide

/-- V97 (R110). -/
theorem test_and_zpx :
    after { at_ 0x0600 [(0x11, 0x0F), (0x600, 0x35), (0x601, 0x10)] with a := 0x3C, x := 0x01 }
      (fun t => (t.a, t.p, t.cycles)) =
      some (0x0C, 0x24, some 4) := by decide

/-- V98 (R111). -/
theorem test_ora_negative :
    after { at_ 0x0600 [(0x600, 0x09), (0x601, 0x80)] with a := 0x01 } (fun t => (t.a, t.p, t.cycles)) =
      some (0x81, 0xA4, some 2) := by decide

/-- V100 (R111). -/
theorem test_ora_indy_crosses :
    after { at_ 0x0600 [(0x20, 0x01), (0x21, 0x02), (0x300, 0xF0), (0x600, 0x11), (0x601, 0x20)] with a := 0x0F, y := 0xFF }
      (fun t => (t.a, t.p, t.cycles)) =
      some (0xFF, 0xA4, some 6) := by decide

/-- V101 (R112). -/
theorem test_eor_imm :
    after { at_ 0x0600 [(0x600, 0x49), (0x601, 0xFF)] with a := 0xAA } (fun t => (t.a, t.p, t.cycles)) =
      some (0x55, 0x24, some 2) := by decide

/-- V103 (R112). -/
theorem test_eor_abs :
    after { at_ 0x0600 [(0x200, 0x8F), (0x600, 0x4D), (0x601, 0x00), (0x602, 0x02)] with a := 0x0F }
      (fun t => (t.a, t.p, t.cycles)) =
      some (0x80, 0xA4, some 4) := by decide

/-- V105 (R113). -/
theorem test_bit_clears :
    after { at_ 0x0600 [(0x10, 0x3F), (0x600, 0x24), (0x601, 0x10)] with a := 0xFF, p := 0xE4 }
      (fun t => (t.p, t.cycles)) =
      some (0x24, some 3) := by decide

/-- V107 (R113). -/
theorem test_bit_overflow :
    after { at_ 0x0600 [(0x200, 0x40), (0x600, 0x2C), (0x601, 0x00), (0x602, 0x02)] with a := 0x40 }
      (fun t => (t.p, t.cycles)) =
      some (0x64, some 4) := by decide

/-- V110 (R115). -/
theorem test_asl_acc_zero :
    after { at_ 0x0600 [(0x600, 0x0A)] with a := 0x80 } (fun t => (t.a, t.p, t.cycles)) =
      some (0x00, 0x27, some 2) := by decide

/-- V113 (R115,R68). -/
theorem test_asl_absx :
    after { at_ 0x0600 [(0x300, 0xFF), (0x600, 0x1E), (0x601, 0xF0), (0x602, 0x02)] with x := 0x10 }
      (fun t => (t.p, t.cell 0x0300, writes t.trace, t.cycles)) =
      some (0xA5, some 0xFE, [(0x0300, 0xFE)], some 7) := by decide

/-- V115 (R116). -/
theorem test_lsr_acc :
    after { at_ 0x0600 [(0x600, 0x4A)] with a := 0xFF, p := 0xA4 } (fun t => (t.a, t.p, t.cycles)) =
      some (0x7F, 0x25, some 2) := by decide

/-- V116 (R116). -/
theorem test_lsr_zp :
    after (at_ 0x0600 [(0x20, 0x03), (0x600, 0x46), (0x601, 0x20)])
      (fun t => (t.p, t.cell 0x0020, writes t.trace, t.cycles)) =
      some (0x25, some 0x01, [(0x0020, 0x01)], some 5) := by decide

/-- V118 (R117). -/
theorem test_rol_acc :
    after { at_ 0x0600 [(0x600, 0x2A)] with a := 0x40, p := 0x25 } (fun t => (t.a, t.p, t.cycles)) =
      some (0x81, 0xA4, some 2) := by decide

/-- V122 (R117,R68). -/
theorem test_rol_absx :
    after { at_ 0x0600 [(0x300, 0x01), (0x600, 0x3E), (0x601, 0xF0), (0x602, 0x02)] with x := 0x10 }
      (fun t => (t.p, t.cell 0x0300, writes t.trace, t.cycles)) =
      some (0x24, some 0x02, [(0x0300, 0x02)], some 7) := by decide

/-- V123 (R118). -/
theorem test_ror_acc :
    after { at_ 0x0600 [(0x600, 0x6A)] with a := 0x02, p := 0x25 } (fun t => (t.a, t.p, t.cycles)) =
      some (0x81, 0xA4, some 2) := by decide

/-- V126 (R118). -/
theorem test_ror_zpx_wraps :
    after { at_ 0x0600 [(0xF, 0x01), (0x600, 0x76), (0x601, 0x10)] with x := 0xFF, p := 0x25 }
      (fun t => (t.p, t.cell 0x000F, writes t.trace, t.cycles)) =
      some (0xA5, some 0x80, [(0x000F, 0x80)], some 6) := by decide

/-- V128 (R120). -/
theorem test_inc_wraps :
    after (at_ 0x0600 [(0x10, 0xFF), (0x600, 0xE6), (0x601, 0x10)])
      (fun t => (t.p, t.cell 0x0010, writes t.trace, t.cycles)) =
      some (0x26, some 0x00, [(0x0010, 0x00)], some 5) := by decide

/-- V132 (R120,R68). -/
theorem test_inc_absx :
    after { at_ 0x0600 [(0x300, 0xFE), (0x600, 0xFE), (0x601, 0xF0), (0x602, 0x02)] with x := 0x10 }
      (fun t => (t.p, t.cell 0x0300, writes t.trace, t.cycles)) =
      some (0xA4, some 0xFF, [(0x0300, 0xFF)], some 7) := by decide

/-- V135 (R121). -/
theorem test_dec_wraps :
    after { at_ 0x0600 [(0x10, 0x00), (0x600, 0xC6), (0x601, 0x10)] with p := 0x25 }
      (fun t => (t.p, t.cell 0x0010, writes t.trace, t.cycles)) =
      some (0xA5, some 0xFF, [(0x0010, 0xFF)], some 5) := by decide

/-- V138 (R121). -/
theorem test_dec_absx :
    after { at_ 0x0600 [(0x2FF, 0x02), (0x600, 0xDE), (0x601, 0x00), (0x602, 0x02)] with x := 0xFF }
      (fun t => (t.p, t.cell 0x02FF, writes t.trace, t.cycles)) =
      some (0x24, some 0x01, [(0x02FF, 0x01)], some 7) := by decide

/-- V140 (R122). -/
theorem test_inx_negative :
    after { at_ 0x0600 [(0x600, 0xE8)] with x := 0x7F, p := 0x65 } (fun t => (t.x, t.p, t.cycles)) =
      some (0x80, 0xE5, some 2) := by decide

/-- V142 (R123). -/
theorem test_iny_wraps :
    after { at_ 0x0600 [(0x600, 0xC8)] with y := 0xFF } (fun t => (t.y, t.p, t.cycles)) =
      some (0x00, 0x26, some 2) := by decide

/-- V144 (R124). -/
theorem test_dex_wraps :
    after { at_ 0x0600 [(0x600, 0xCA)] with p := 0x25 } (fun t => (t.x, t.p, t.cycles)) =
      some (0xFF, 0xA5, some 2) := by decide

/-- V145 (R125). -/
theorem test_dey :
    after { at_ 0x0600 [(0x600, 0x88)] with y := 0x80, p := 0xA4 } (fun t => (t.y, t.p, t.cycles)) =
      some (0x7F, 0x24, some 2) := by decide

/-- V147 (R130). -/
theorem test_jmp_abs :
    after (at_ 0x0600 [(0x600, 0x4C), (0x601, 0x34), (0x602, 0x12)]) (fun t => (t.pc, t.cycles)) =
      some (0x1234, some 3) := by decide

/-- V150 (R130,R62). -/
theorem test_jmp_ind_page_wrap :
    after (at_ 0x0600 [(0x200, 0x12), (0x2FF, 0x34), (0x300, 0x56), (0x600, 0x6C), (0x601, 0xFF), (0x602, 0x02)])
      (fun t => (t.pc, t.cycles)) =
      some (0x1234, some 5) := by decide

/-- V152 (R131,R13). -/
theorem test_jsr_stack_wraps :
    after { at_ 0x0600 [(0x600, 0x20), (0x601, 0x10), (0x602, 0x06)] with sp := 0x00 }
      (fun t => (t.sp, t.pc, writes t.trace, t.cycles)) =
      some (0xFE, 0x0610, [(0x0100, 0x06), (0x01FF, 0x02)], some 6) := by decide

/-- V153 (R131,R52). -/
theorem test_jsr_over_operand :
    after { at_ 0x01FC [(0x1FC, 0x20), (0x1FD, 0x10), (0x1FE, 0x06)] with sp := 0xFE }
      (fun t => (t.sp, t.pc, writes t.trace, t.cycles)) =
      some (0xFC, 0x0610, [(0x01FE, 0x01), (0x01FD, 0xFE)], some 6) := by decide

/-- V155 (R132). -/
theorem test_rts_adds_one :
    after { at_ 0x0610 [(0x1FC, 0xFF), (0x1FD, 0xFF), (0x610, 0x60)] with sp := 0xFB }
      (fun t => (t.sp, t.pc, t.cycles)) =
      some (0xFD, 0x0000, some 6) := by decide

/-- V157 (R134). -/
theorem test_bpl_taken :
    after (at_ 0x0600 [(0x600, 0x10), (0x601, 0x05)]) (fun t => (t.pc, t.cycles)) =
      some (0x0607, some 3) := by decide

/-- V158 (R134). -/
theorem test_bpl_not_taken :
    after { at_ 0x0600 [(0x600, 0x10), (0x601, 0x05)] with p := 0xA4 } (fun t => (t.pc, t.cycles)) =
      some (0x0602, some 2) := by decide

/-- V159 (R135). -/
theorem test_bmi_backward :
    after { at_ 0x0600 [(0x600, 0x30), (0x601, 0xFC)] with p := 0xA4 } (fun t => (t.pc, t.cycles)) =
      some (0x05FE, some 4) := by decide

/-- V160 (R136). -/
theorem test_bvc_taken :
    after (at_ 0x0600 [(0x600, 0x50), (0x601, 0x7F)]) (fun t => (t.pc, t.cycles)) =
      some (0x0681, some 3) := by decide

/-- V162 (R137). -/
theorem test_bvs_taken :
    after { at_ 0x0600 [(0x600, 0x70), (0x601, 0x10)] with p := 0x64 } (fun t => (t.pc, t.cycles)) =
      some (0x0612, some 3) := by decide

/-- V163 (R138). -/
theorem test_bcc_crosses :
    after (at_ 0x06F0 [(0x6F0, 0x90), (0x6F1, 0x20)]) (fun t => (t.pc, t.cycles)) =
      some (0x0712, some 4) := by decide

/-- V164 (R138). -/
theorem test_bcc_not_taken :
    after { at_ 0x06F0 [(0x6F0, 0x90), (0x6F1, 0x20)] with p := 0x25 } (fun t => (t.pc, t.cycles)) =
      some (0x06F2, some 2) := by decide

/-- V165 (R139). -/
theorem test_bcs_taken :
    after { at_ 0x0600 [(0x600, 0xB0), (0x601, 0x00)] with p := 0x25 } (fun t => (t.pc, t.cycles)) =
      some (0x0602, some 3) := by decide

/-- V167 (R140). -/
theorem test_bne_self :
    after (at_ 0x0600 [(0x600, 0xD0), (0x601, 0xFE)]) (fun t => (t.pc, t.cycles)) =
      some (0x0600, some 3) := by decide

/-- V168 (R140). -/
theorem test_bne_not_taken :
    after { at_ 0x0605 [(0x605, 0xD0), (0x606, 0xFB)] with p := 0x26 } (fun t => (t.pc, t.cycles)) =
      some (0x0607, some 2) := by decide

/-- V169 (R141). -/
theorem test_beq_wraps :
    after { at_ 0xFFFD [(0xFFFD, 0xF0), (0xFFFE, 0x01)] with p := 0x26 } (fun t => (t.pc, t.cycles)) =
      some (0x0000, some 4) := by decide

/-- V172 (R141,R133). -/
theorem test_beq_next_page :
    after { at_ 0x06FE [(0x6FE, 0xF0), (0x6FF, 0x00)] with p := 0x26 } (fun t => (t.pc, t.cycles)) =
      some (0x0700, some 3) := by decide

/-- V174 (R150). -/
theorem test_clc :
    after { at_ 0x0600 [(0x600, 0x18)] with p := 0x25 } (fun t => (t.p, t.cycles)) =
      some (0x24, some 2) := by decide

/-- V175 (R151). -/
theorem test_sec :
    after (at_ 0x0600 [(0x600, 0x38)]) (fun t => (t.p, t.cycles)) =
      some (0x25, some 2) := by decide

/-- V176 (R152). -/
theorem test_cli :
    after (at_ 0x0600 [(0x600, 0x58)]) (fun t => (t.p, t.cycles)) =
      some (0x20, some 2) := by decide

/-- V177 (R153). -/
theorem test_sei :
    after { at_ 0x0600 [(0x600, 0x78)] with p := 0x20 } (fun t => (t.p, t.cycles)) =
      some (0x24, some 2) := by decide

/-- V178 (R154). -/
theorem test_clv :
    after { at_ 0x0600 [(0x600, 0xB8)] with p := 0x64 } (fun t => (t.p, t.cycles)) =
      some (0x24, some 2) := by decide

/-- V179 (R155). -/
theorem test_cld :
    after { at_ 0x0600 [(0x600, 0xD8)] with p := 0x2C } (fun t => (t.p, t.cycles)) =
      some (0x24, some 2) := by decide

/-- V180 (R156). -/
theorem test_sed :
    after (at_ 0x0600 [(0x600, 0xF8)]) (fun t => (t.p, t.cycles)) =
      some (0x2C, some 2) := by decide

/-- V181 (R157). -/
theorem test_nop :
    after { at_ 0x0600 [(0x600, 0xEA)] with a := 0x12, x := 0x34, y := 0x56, p := 0xE5 }
      (fun t => (t.p, t.pc, t.cycles)) =
      some (0xE5, 0x0601, some 2) := by decide

/-- V184 (R158). -/
theorem test_brk_keeps_decimal :
    after { at_ 0x0600 [(0x600, 0x00), (0x601, 0xEA), (0xFFFE, 0x00), (0xFFFF, 0x90)] with p := 0xE3 }
      (fun t => (t.sp, t.p, t.pc, writes t.trace)) =
      some (0xFA, 0xE7, 0x9000, [(0x01FD, 0x06), (0x01FC, 0x02), (0x01FB, 0xF3)]) := by decide

/-- V186 (R158). -/
theorem test_brk_over_page :
    after (at_ 0x06FF [(0x6FF, 0x00), (0xFFFE, 0x00), (0xFFFF, 0x90)]) (fun t => (t.sp, t.p, t.pc, writes t.trace)) =
      some (0xFA, 0x24, 0x9000, [(0x01FD, 0x07), (0x01FC, 0x01), (0x01FB, 0x34)]) := by decide

/-- V188 (R159). -/
theorem test_rti :
    after { at_ 0x0700 [(0x1FB, 0xC3), (0x1FC, 0x34), (0x1FD, 0x12), (0x700, 0x40)] with sp := 0xFA }
      (fun t => (t.sp, t.p, t.pc, t.cycles)) =
      some (0xFD, 0xE3, 0x1234, some 6) := by decide

/-- V189 (R159,R13). -/
theorem test_rti_stack_wraps :
    after { at_ 0x0700 [(0x100, 0x00), (0x101, 0x80), (0x1FF, 0xFF), (0x700, 0x40)] with sp := 0xFE }
      (fun t => (t.sp, t.p, t.pc, t.cycles)) =
      some (0x01, 0xEF, 0x8000, some 6) := by decide

/-- V198 (R175). -/
theorem test_nmi_while_masked :
    after { at_ 0x0600 [(0x600, 0xEA), (0xFFFA, 0x20), (0xFFFB, 0x80), (0xFFFE, 0x10), (0xFFFF, 0x80)] with p := 0xA5, nmiPending := true }
      (fun t => (t.sp, t.p, t.pc, writes t.trace)) =
      some (0xFA, 0xA5, 0x8020, [(0x01FD, 0x06), (0x01FC, 0x00), (0x01FB, 0xA5)]) := by decide

/-- V199 (R177,R176). -/
theorem test_irq_entry :
    after { at_ 0x0600 [(0x600, 0xEA), (0xFFFA, 0x20), (0xFFFB, 0x80), (0xFFFE, 0x10), (0xFFFF, 0x80)] with p := 0x21, irqIn := true }
      (fun t => (t.sp, t.p, t.pc, writes t.trace)) =
      some (0xFA, 0x25, 0x8010, [(0x01FD, 0x06), (0x01FC, 0x00), (0x01FB, 0x21)]) := by decide

/-- V200 (R174,R177). -/
theorem test_irq_masked :
    after { at_ 0x0600 [(0x600, 0xEA), (0xFFFA, 0x20), (0xFFFB, 0x80), (0xFFFE, 0x10), (0xFFFF, 0x80)] with irqIn := true }
      (fun t => (t.p, t.pc, t.cycles)) =
      some (0x24, 0x0601, some 2) := by decide

/-- V201 (R179). -/
theorem test_nmi_before_irq :
    after { at_ 0x0600 [(0x600, 0xEA), (0xFFFA, 0x20), (0xFFFB, 0x80), (0xFFFE, 0x10), (0xFFFF, 0x80)] with p := 0x20, irqIn := true, nmiPending := true }
      (fun t => (t.sp, t.p, t.pc, writes t.trace)) =
      some (0xFA, 0x24, 0x8020, [(0x01FD, 0x06), (0x01FC, 0x00), (0x01FB, 0x20)]) := by decide

/-- V190 (R160): the latch records the byte and its address, PC stays, no count. -/
theorem test_unassigned_latches :
    after (at_ 0x0600 [(0x600, 0x02), (0x601, 0xEA)]) (fun t => (t.fault, t.pc, t.cycles, t.trace)) =
      some (some ⟨0x02, 0x0600⟩, 0x0600, none, [.read 0x0600 0x02]) := by decide

/-- V209 (R170, R174): with a fault latched there is no step, whatever interrupts are there. -/
theorem test_latched_stops :
    stop { at_ 0x0600 [(0x600, 0xEA)] with fault := some ⟨0x02, 0x0600⟩, nmiPending := true, irqIn := true } =
      some (.decodeErrorLatched ⟨0x02, 0x0600⟩) := by decide

/-- V34 (R47, R196): a store over the next opcode is what the next step fetches. -/
theorem test_store_then_fetch :
    after { at_ 0x0600 [(0x600, 0x8D), (0x601, 0x03), (0x602, 0x06), (0x603, 0x02)] with a := 0xEA }
      (fun t => t.fetch.1) = some .nop := by decide

/-- V211 (R190, R21): reset from a latched fault. -/
theorem test_reset :
    let t := ({ at_ 0xABCD [(0x010, 0x99), (0xFFFC, 0x34), (0xFFFD, 0x12)] with
      a := 0x55, sp := 0x12, p := 0xEF, nmiPending := true, fault := some ⟨0x02, 0xABCD⟩ } : State).doReset
    (t.a, t.sp, t.p, t.pc, t.nmiPending, t.fault) = (0x00, 0xFD, 0x24, 0x1234, false, none) ∧
      t.cell 0x010 = some 0x99 := by decide

/-- A reset among the environment's actions lands before the step (R170, R190); then an NMI raised with it is taken. -/
theorem test_inputs_land_first :
    after { at_ 0x0600 [(0xFFFA, 0x20), (0xFFFB, 0x80), (0xFFFC, 0x00), (0xFFFD, 0x90)] with
      fault := some ⟨0x02, 0x0600⟩, inputs := [[.reset, .raiseNmi], []] }
      (fun t => (t.pc, t.fault, t.inputs)) = some (0x8020, none, [[]]) := by decide

/-- The host's placement runs the instruction as the first one after reset (log 42). -/
theorem test_placed_word_after_reset :
    after (State.reset.withFetchWord 16 0x42A9) (fun t => (t.a, t.pc)) = some (0x42, 0x8002) := by decide

/-! ### Witnesses: for each obligation with hypotheses, states and operands that meet them -/

/-- A state in which an instruction of one, two and three bytes can stand at PC. -/
def ready (bytes : List Host.Cell) : State := at_ 0x0600 bytes

theorem ready_ready (bytes : List Host.Cell) : (ready bytes).ReadyToFetch := ⟨rfl, rfl, rfl, fun h => nomatch h⟩

theorem witness_DecodeOfEncode : (Instr.staAbsx 0x1234).WellFormed = true := by decide

theorem witness_EncodeOfDecode : decode [0x4C, 0x34, 0x12, 0xEA] = .ok (.jmpAbs 0x1234, [0xEA]) := by decide

theorem witness_UnassignedBytesAreTheListed : decode [0xFF, 0x01] = .ok (.illegalFF, [0x01]) := by decide

theorem witness_StepRunsDecodedInstruction_one :
    (ready [(0x600, 0x18)]).ReadyToFetch ∧ Instr.clc.WellFormed = true ∧
      decode [((ready [(0x600, 0x18)]).memRead 0x0600).1] = .ok (.clc, []) :=
  ⟨ready_ready _, rfl, by decide⟩

theorem witness_StepRunsDecodedInstruction_two :
    let s := ready [(0x600, 0xA9), (0x601, 0x10)]
    s.ReadyToFetch ∧
      decode [(s.memRead 0x0600).1, ((s.memRead 0x0600).2.memRead 0x0601).1] = .ok (.ldaImm 0x10, []) :=
  ⟨ready_ready _, by decide⟩

theorem witness_StepRunsDecodedInstruction_three :
    let s := ready [(0x600, 0xAD), (0x601, 0x34), (0x602, 0x12)]
    let r := (s.memRead 0x0600).2
    s.ReadyToFetch ∧
      decode [(s.memRead 0x0600).1, (r.memRead 0x0601).1, ((r.memRead 0x0601).2.memRead 0x0602).1] =
        .ok (.ldaAbs 0x1234, []) :=
  ⟨ready_ready _, by decide⟩

theorem witness_PlacedWordRunsNext : decodeTableWord 24 0x1234AD = some (.ldaAbs 0x1234) := by decide

theorem witness_PollOrder :
    (∃ s : State, s.applyInputs.fault = some ⟨0x02, 0x0600⟩) ∧
    (∃ s : State, s.applyInputs.fault = none ∧ s.applyInputs.nmiPending = true) ∧
    (∃ s : State, s.applyInputs.fault = none ∧ s.applyInputs.nmiPending = false ∧ s.applyInputs.irqIn = true ∧
      s.applyInputs.flag .i = false) ∧
    (∃ s : State, s.applyInputs.fault = none ∧ s.applyInputs.nmiPending = false ∧ s.applyInputs.irqIn = true ∧
      s.applyInputs.flag .i = true) ∧
    (∃ s : State, s.applyInputs.fault = none ∧ s.applyInputs.nmiPending = false ∧ s.applyInputs.irqIn = false) :=
  ⟨⟨{ ready [] with fault := some ⟨0x02, 0x0600⟩ }, by decide⟩, ⟨{ ready [] with inputs := [[.raiseNmi]] }, by decide⟩,
    ⟨{ ready [] with p := 0x20, inputs := [[.setIrq true]] }, by decide⟩,
    ⟨{ ready [] with irqIn := true }, by decide⟩, ⟨ready [], by decide⟩⟩

theorem witness_OnlyResetClearsTheFaultLatch :
    (∃ s : State, s.fault = some ⟨0x02, 0x0600⟩ ∧ s.inputs = [[.raiseNmi]] ∧
      ∀ now ∈ s.inputs.head?, EnvAction.reset ∉ now) ∧
    (∃ s : State, s.fault = some ⟨0x02, 0x0600⟩ ∧ s.inputs = [.reset] :: [[]]) :=
  ⟨⟨{ ready [] with fault := some ⟨0x02, 0x0600⟩, inputs := [[.raiseNmi]] }, by decide⟩,
    ⟨{ ready [] with fault := some ⟨0x02, 0x0600⟩, inputs := [[.reset], []] }, by decide⟩⟩

/-- A store in a state whose memory is in the form: the premises of both invariants, and of `TransactionsWithinCycles`. -/
theorem witness_StepKeeps :
    let s := { ready [(0x600, 0x85), (0x601, 0x10)] with a := 0x42 }
    StatusForm s.p ∧ s.mem.wf = true ∧ s.inputs = [] ∧ ∃ t, step s = .next t ∧ t.cycles = some 3 :=
  ⟨by unfold StatusForm; decide, by decide, rfl, _, rfl, rfl⟩

theorem witness_RamReadAfterWrite :
    (0x07FF : Word).toNat < 0x2000 ∧ (0x1FFF : Word).toNat < 0x2000 ∧ (ready []).cell 0x1FFF = none := by decide

theorem witness_DeviceAccessIsTheEnvironments :
    0x2000 ≤ (0x2000 : Word).toNat ∧ State.reset.dev = .free ∧ (ready [(0x8000, 0x4C)]).dev = .flatRom [(0x8000, 0x4C)] := by
  decide

theorem witness_StoreIsSeenByNextFetch :
    let s := { ready [(0x600, 0x8D), (0x601, 0x03), (0x602, 0x06)] with a := 0xEA }
    storeRow .a (.abs 0x0603) = some ⟨.staAbs 0x0603, 0x8D, 4⟩ ∧ s.ReadyToFetch ∧
      inRam (s.locate (.abs 0x0603)).ea = true ∧
      busKey (s.pc + BitVec.ofNat 16 (Mode.abs 0x0603).length) = busKey (s.locate (.abs 0x0603)).ea ∧
      opcodeEntry (s.reg .a) = .one .nop ∧ ∃ t, exec (.staAbs 0x0603) s = .next t :=
  ⟨rfl, ⟨rfl, rfl, rfl, by decide⟩, by decide, by decide, rfl, _, rfl⟩

theorem witness_PointerOperands :
    (0x00 : Byte).toNat = ((0xFF : Byte).toNat + ({ ready [] with x := 0x01 } : State).x.toNat) % 256 := by decide

theorem witness_LoadsCopyOperandToRegister :
    loadRow .a (.mem (.indx 0xFF)) = some ⟨.ldaIndx 0xFF, 0xA1, 6⟩ ∧
      loadRow .x (.mem (.absy 0xFFFF)) = some ⟨.ldxAbsy 0xFFFF, 0xBE, 4⟩ ∧
      loadRow .y (.imm 0x00) = some ⟨.ldyImm 0x00, 0xA0, 2⟩ := by decide

theorem witness_StoresWriteRegisterToMemory :
    storeRow .a (.indy 0xFF) = some ⟨.staIndy 0xFF, 0x91, 6⟩ ∧ storeRow .x (.zpy 0xFF) = some ⟨.stxZpy 0xFF, 0x96, 4⟩ ∧
      storeRow .y (.abs 0x2000) = some ⟨.styAbs 0x2000, 0x8C, 4⟩ := by decide

theorem witness_TransfersCopyRegister :
    transferRow .s .x = some ⟨.tsx, 0xBA, 2⟩ ∧ transferRow .x .s = some ⟨.txs, 0x9A, 2⟩ := by decide

theorem witness_PushThenPullRestores : StatusForm (ready []).p := by unfold StatusForm; decide

theorem witness_AdcAddsWithCarry :
    adcRow (.imm 0x7F) = some ⟨.adcImm 0x7F, 0x69, 2⟩ ∧
      adcRow (.mem (.absx 0xFFFF)) = some ⟨.adcAbsx 0xFFFF, 0x7D, 4⟩ := by decide

theorem witness_SbcSubtractsWithBorrow :
    sbcRow (.imm 0x80) = some ⟨.sbcImm 0x80, 0xE9, 2⟩ ∧
      sbcRow (.mem (.indy 0xFF)) = some ⟨.sbcIndy 0xFF, 0xF1, 5⟩ := by decide

theorem witness_ComparesSetFlagsOnly :
    compareRow .a (.mem (.zp 0x00)) = some ⟨.cmpZp 0x00, 0xC5, 3⟩ ∧
      compareRow .x (.imm 0xFF) = some ⟨.cpxImm 0xFF, 0xE0, 2⟩ ∧
      compareRow .y (.mem (.abs 0xFFFF)) = some ⟨.cpyAbs 0xFFFF, 0xCC, 4⟩ := by decide

theorem witness_LogicCombinesAccumulator :
    andRow (.imm 0x80) = some ⟨.andImm 0x80, 0x29, 2⟩ ∧ oraRow (.mem (.zpx 0xFF)) = some ⟨.oraZpx 0xFF, 0x15, 4⟩ ∧
      eorRow (.mem (.absy 0xFFFF)) = some ⟨.eorAbsy 0xFFFF, 0x59, 4⟩ := by decide

theorem witness_BitTestsMemory :
    bitRow (.mem (.zp 0x10)) = some ⟨.bitZp 0x10, 0x24, 3⟩ ∧
      bitRow (.mem (.abs 0x2002)) = some ⟨.bitAbs 0x2002, 0x2C, 4⟩ := by decide

theorem witness_ShiftsMoveOneBit :
    shiftRow .asl (.zp 0x10) = some ⟨.aslZp 0x10, 0x06, 5⟩ ∧ shiftRow .lsr (.zpx 0xFF) = some ⟨.lsrZpx 0xFF, 0x56, 6⟩ ∧
      shiftRow .rol (.abs 0x2000) = some ⟨.rolAbs 0x2000, 0x2E, 6⟩ ∧
      shiftRow .ror (.absx 0xFFFF) = some ⟨.rorAbsx 0xFFFF, 0x7E, 7⟩ := by decide

theorem witness_IncDecOfMemory :
    incRow (.zpx 0xFF) = some ⟨.incZpx 0xFF, 0xF6, 6⟩ ∧ decRow (.absx 0xFFFF) = some ⟨.decAbsx 0xFFFF, 0xDE, 7⟩ := by
  decide

theorem witness_IncDecOfRegister :
    stepRow .x true = some ⟨.inx, 0xE8, 2⟩ ∧ stepRow .y false = some ⟨.dey, 0x88, 2⟩ := by decide

/-- A taken and a not taken branch, each across the top of memory. -/
theorem witness_BranchesTestOneFlag :
    branchRow .z true 0x80 = some ⟨.beq 0x80, 0xF0, 2⟩ ∧
      (({ at_ 0xFFFE [] with p := 0x26 } : State).flag .z = true) ∧ ((at_ 0xFFFE []).flag .z ≠ true) := by decide

theorem witness_FlagInstructionsWriteOneFlag :
    flagRow .d true = some ⟨.sed, 0xF8, 2⟩ ∧ flagRow .v false = some ⟨.clv, 0xB8, 2⟩ := by decide

theorem witness_UnassignedOpcodesLatchDecodeError : ((0x02 : Byte), Instr.illegal02) ∈ unassignedRows ∧ (ready []).inputs = [] ∧
    (ready [(0x600, 0x02)]).busByte (ready [(0x600, 0x02)]).pc = 0x02 := by decide

theorem witness_NmiEntryStep :
    let s := { ready [] with nmiPending := true, irqIn := true }
    s.inputs = [] ∧ s.fault = none ∧ s.nmiPending = true := by decide

theorem witness_IrqEntryStep :
    let s := { ready [] with irqIn := true, p := 0x20 }
    s.inputs = [] ∧ s.fault = none ∧ s.nmiPending = false ∧ s.irqIn = true ∧ s.flag .i = false := by decide

theorem witness_StatusWritesTakeEffectAtNextPoll :
    let s := { ready [(0x1FE, 0xFF)] with irqIn := true }
    s.inputs = [] ∧ s.fault = none ∧ s.nmiPending = false ∧ s.irqIn = true ∧
      (∃ t, exec .cli s = .next t ∧ t.flag .i = false) ∧ (∃ t, exec .sei s = .next t ∧ t.flag .i = true) ∧
      (∃ t, exec .plp s = .next t ∧ t.flag .i = true) :=
  ⟨rfl, rfl, rfl, rfl, ⟨_, rfl, by decide⟩, ⟨_, rfl, by decide⟩, ⟨_, rfl, by decide⟩⟩

theorem witness_RtiResumesAfterEntry : StatusForm ({ ready [] with p := 0xEF } : State).p := by
  unfold StatusForm; decide

/-- Two machines that differ in a read of RAM on record, before a read outside RAM. -/
theorem witness_RamAccessesAreInvisible :
    let s := { ready [(0x600, 0xAD), (0x601, 0x02), (0x602, 0x20)] with dev := .free }
    let s' := { s with trace := [.read 0x0010 0x00] }
    s' = { s with trace := s'.trace } ∧ s'.history = s.history ∧ s'.trace ≠ s.trace ∧ ∃ t, step s = .next t :=
  ⟨rfl, rfl, by decide, _, rfl⟩

/-- The whole-machine rules: an instruction that writes nothing but X, Z and N. -/
theorem witness_OnlyNamedInstructions :
    writesA .inx = false ∧ writesY .inx = false ∧ writesS .inx = false ∧ writesX .dey = false ∧
      writesI .inx = false ∧ writesD .inx = false ∧ writesV .inx = false ∧ writesC .inx = false ∧
      writesMemory .inx = false ∧ writesZN .tax = true ∧ writesZN .nop = false ∧ Instr.inx.isAssigned = true ∧ ∃ t, exec .inx (ready []) = .next t :=
  ⟨rfl, rfl, rfl, rfl, rfl, rfl, rfl, rfl, rfl, rfl, rfl, rfl, _, rfl⟩

end Sys2Proof.Tests
end

section
/-! The operand formats (spec/30_encoding.md R55-R64) as arithmetic: what each part of an effective address is as a
number, what the pointer reads of INDX, INDY and IND are, and the obligations on the formats and on JMP. -/

namespace Sys2Proof.Machine

/-! ### Zero-page addresses -/

@[simp] theorem zext16_toNat (b : Byte) : (zext16 b).toNat = b.toNat := by
  have := b.isLt
  rw [zext16, BitVec.toNat_setWidth, Nat.mod_eq_of_lt (by omega)]

/-- A zero-page address, written by its number. -/
theorem zext16_eq_ofNat (b : Byte) : zext16 b = BitVec.ofNat 16 b.toNat :=
  BitVec.eq_of_toNat_eq (BitVec.toNat_setWidth 16 b)

/-- The next zero-page address wraps inside page zero (R63, R64). -/
theorem zext16_succ_eq_ofNat (b : Byte) : zext16 (b + 1) = BitVec.ofNat 16 ((b.toNat + 1) % 256) := by
  rw [zext16_eq_ofNat, BitVec.toNat_add]
  rfl

@[simp] theorem inRam_zext16 (b : Byte) : inRam (zext16 b) = true := by
  have := b.isLt
  rw [inRam_iff, zext16_toNat]
  omega

/-! ### Indexed addresses -/

theorem Located.indexed_ea_toNat (base : Word) (index : Byte) (st : State) :
    (Located.indexed base index st).ea.toNat = (base.toNat + index.toNat) % 65536 := by
  rw [Located.indexed, BitVec.toNat_add, zext16_toNat]

/-- The page changes exactly when the low bytes carry: the index is below 256, so the page moves by at most one. -/
theorem Located.indexed_crossed_iff (h l index : Byte) (st : State) :
    (Located.indexed (mkWord h l) index st).crossed = true ↔ 256 ≤ l.toNat + index.toNat := by
  have := h.isLt
  have := l.isLt
  have := index.isLt
  have page : (pageOf (mkWord h l + zext16 index)).toNat =
      (h.toNat * 256 + l.toNat + index.toNat) % 65536 / 256 := by
    rw [pageOf, hiByte_toNat, BitVec.toNat_add, mkWord_toNat, zext16_toNat]
  rw [Located.indexed, bne_iff_ne, ne_eq, ← BitVec.toNat_inj, page, pageOf, hiByte_mkWord]
  omega

/-! ### Pointer reads -/

/-- A pointer in page zero (R63, R64): its two reads, low byte first.  The first is a read of RAM, so the second does
not see it. -/
theorem State.zpPointer_eq (p : Byte) (s : State) :
    s.zpPointer p =
      (mkWord (s.busByte (zext16 (p + 1))) (s.busByte (zext16 p)),
        { s with
          trace := .read (zext16 (p + 1)) (s.busByte (zext16 (p + 1))) ::
            .read (zext16 p) (s.busByte (zext16 p)) :: s.trace }) := by
  have unseen : (s.note (.read (zext16 p) (s.busByte (zext16 p)))).busByte (zext16 (p + 1)) =
      s.busByte (zext16 (p + 1)) :=
    busByte_memRead_ram (inRam_zext16 p) _
  refine Prod.ext ?_ ?_
  · rw [State.zpPointer, State.readPair_fst, unseen]
  · rw [State.zpPointer, State.readPair_snd, unseen]
    rfl

/-- The second byte of an IND pointer by its number: the low byte of the address wraps, its page stays (R62). -/
theorem indirect_second_eq_ofNat (w : Word) :
    ((w &&& 0xFF00) ||| ((w + 1) &&& 0x00FF)) = BitVec.ofNat 16 (w.toNat / 256 * 256 + (w.toNat + 1) % 256) := by
  apply BitVec.eq_of_toNat_eq
  have := w.isLt
  have one : (1 : Byte).toNat = 1 := rfl
  rw [indirect_second, mkWord_toNat, hiByte_toNat, BitVec.toNat_add, loByte_toNat, one, BitVec.toNat_ofNat]
  omega

/-! ### The frame of a control transfer -/

/-- A step that writes nothing but PC, the count and the record of the bus keeps registers, flags, memory and latches. -/
theorem kept_of_control {s t : State} (h : t = { s with pc := t.pc, cycles := t.cycles, trace := t.trace }) :
    RegsKeptExcept [] s t ∧ t.p = s.p ∧ MemoryKeptExcept [] s t ∧ LatchesKept s t := by
  have field {α : Type} (f : State → α) : f t = f { s with pc := t.pc, cycles := t.cycles, trace := t.trace } :=
    congrArg f h
  exact ⟨fun q _ => State.reg_congr s t (field State.a) (field State.x) (field State.y) (field State.sp) q,
    field State.p, memoryKept_of_mem (s := s) (field State.mem) [] (field State.dev),
    field State.nmiPending, field State.fault, field State.irqIn, field State.inputs⟩

/-! ### The obligations -/

/-- Settles O21: both indexed formats are `Located.indexed` on the operand word, the crossing bit by
`Located.indexed_crossed_iff`. -/
theorem absoluteOperands : Obligations.AbsoluteOperands := by
  intro b1 b2 s w
  refine ⟨mkWord_toNat b2 b1, rfl, rfl, Located.indexed_ea_toNat w s.x s, Located.indexed_ea_toNat w s.y s,
    Located.indexed_crossed_iff b2 b1 s.x s, Located.indexed_crossed_iff b2 b1 s.y s, ?_⟩
  simp [State.locate, Located.indexed, Mode.length]

/-- Settles O22: both formats read their pointer by `State.zpPointer_eq`, INDX at `b + X`, INDY at `p`; INDY then indexes
the pointer. -/
theorem pointerOperands : Obligations.PointerOperands := by
  intro b p s lo hi base reads
  have pointer : s.zpPointer p = (mkWord (s.busByte hi) (s.busByte lo), { s with trace := reads ++ s.trace }) := by
    rw [State.zpPointer_eq, zext16_succ_eq_ofNat, zext16_eq_ofNat]
    rfl
  refine ⟨fun hp => ?_, ?_⟩
  · have hsum : b + s.x = p := BitVec.eq_of_toNat_eq (by rw [BitVec.toNat_add, hp])
    rw [State.locate, hsum, pointer]
    exact ⟨mkWord_toNat _ _, rfl, rfl⟩
  · rw [State.locate, pointer]
    refine ⟨?_, Located.indexed_crossed_iff _ _ _ _, rfl⟩
    rw [Located.indexed_ea_toNat, mkWord_toNat]

/-- Settles O40: ABS transfers from the state itself, IND from the state after the pointer reads of `State.indirect`. -/
theorem jumpsSetPc : Obligations.JumpsSetPc := by
  intro w s
  refine ⟨⟨_, exec_eq _ _, rfl, rfl, rfl, rfl, kept_of_control rfl⟩, ?_⟩
  rw [← indirect_second_eq_ofNat]
  exact ⟨_, exec_eq _ _, rfl, mkWord_toNat _ _, rfl, rfl, kept_of_control rfl⟩

/-- Settles O20: the sum is one of bytes, so it is modulo 256, and its zero extension adds nothing. -/
theorem zeroPageOperands : Obligations.ZeroPageOperands := by
  intro b s
  have sum (i : Byte) : (zext16 (b + i)).toNat = (b.toNat + i.toNat) % 256 := by
    rw [zext16_toNat, BitVec.toNat_add]
  refine ⟨zext16_toNat b, sum s.x, sum s.y, ?_⟩
  simp [State.locate, Mode.length]

/-- Settles O23: a memory operand is one `memRead` at the located address, and `State.operand_st` says that the reads
touch the record of the bus alone. -/
theorem operandValue : Obligations.OperandValue := by
  intro b m s
  refine ⟨rfl, rfl, rfl, rfl, rfl, rfl, ?_⟩
  rw [State.operand_st]

end Sys2Proof.Machine
end

section
/-! Instructions of access class "read" (spec/30_encoding.md R69) and the loads (spec/40_load_store.md R80-R82): what an
instruction that reads its operand does apart from registers and flags, said once for every such instruction, and the
obligation on LDA, LDX and LDY. -/

namespace Sys2Proof.Machine

/-! ### The end of an instruction -/

@[simp] theorem State.retire_reg (s : State) (l n : Nat) (q : Reg) : (s.retire l n).reg q = s.reg q := by
  cases q <;> rfl

@[simp] theorem State.setZN_reg (s : State) (v : Byte) (q : Reg) : (s.setZN v).reg q = s.reg q := by
  cases q <;> rfl

/-- PC moves past the instruction's bytes, modulo 65536 (R12, R52). -/
theorem State.retire_pc_toNat (s : State) (l n : Nat) : (s.retire l n).pc.toNat = (s.pc.toNat + l) % 65536 := by
  rw [State.retire_pc, BitVec.toNat_add, BitVec.toNat_ofNat, Nat.add_mod_mod]

/-! ### Access class "read" -/

/-- An instruction that reads its operand, then writes registers and flags alone, and retires with the penalty (R52,
R68, R69). -/
theorem readsOperand_retire {row : Row} {src : Source} {s u : State} (enc : row.Encoded src.length)
    (h : u = { (s.operand src).st with a := u.a, x := u.x, y := u.y, sp := u.sp, p := u.p }) :
    ReadsOperand row src s (u.retire src.length (row.base + penalty (s.operand src).crossed)) := by
  rw [State.operand_st] at h
  have field {α : Type} (f : State → α) : f u = f { s with
      a := u.a, x := u.x, y := u.y, sp := u.sp, p := u.p, trace := (s.operand src).st.trace } := congrArg f h
  refine ⟨enc, memoryKept_of_mem (s := s) (t := u.retire ..) (field State.mem) [] (field State.dev),
    ⟨field State.nmiPending, field State.fault, field State.irqIn, field State.inputs⟩, ?_, rfl, ?_⟩
  · rw [State.retire_pc_toNat, field State.pc]
  · rw [State.retire_trace, field State.trace]

/-! ### Loads -/

/-- The loaded register holds the operand; every other register is kept. -/
theorem State.load_reg (s : State) (r q : Reg) (src : Source) (n : Nat) :
    (s.load r src n).reg q = if q = r then (s.operand src).val else s.reg q := by
  simp [State.load]

theorem State.load_p (s : State) (r : Reg) (src : Source) (n : Nat) :
    (s.load r src n).p = putZN (s.operand src).val s.p := by
  simp [State.load]

theorem readsOperand_load {row : Row} {src : Source} (enc : row.Encoded src.length) (r : Reg) (s : State) :
    ReadsOperand row src s (s.load r src row.base) :=
  readsOperand_retire enc (by cases r <;> rfl)

/-- A row of the load table is a load of its register from its operand, with its base count, and is encoded as the table
says. -/
theorem loadRow_form {r : Reg} {src : Source} {row : Row} (h : loadRow r src = some row) :
    formOf row.instr = .load r src row.base ∧ row.Encoded src.length := by
  cases r <;> simp only [loadRow] at h
  case a => unfold ldaRow at h; split at h <;> cases h <;> exact ⟨rfl, rfl, rfl⟩
  case x => unfold ldxRow at h; split at h <;> cases h <;> exact ⟨rfl, rfl, rfl⟩
  case y => unfold ldyRow at h; split at h <;> cases h <;> exact ⟨rfl, rfl, rfl⟩
  case s => cases h

/-- Settles O24: every row of the load table is one `State.load` (`loadRow_form`), which writes its register and P alone
after the operand's reads. -/
theorem loadsCopyOperandToRegister : Obligations.LoadsCopyOperandToRegister := by
  intro r src row s h
  obtain ⟨form, enc⟩ := loadRow_form h
  refine ⟨s.load r src row.base, ?_, ?_, ?_, znOf_of_p (s.load_p ..), flagsKept_of_putZN (s.load_p ..),
    readsOperand_load enc r s⟩
  · rw [exec_eq, form]
    rfl
  · rw [State.load_reg, if_pos rfl]
  · intro q hq
    rw [State.load_reg, if_neg (by simpa using hq)]

end Sys2Proof.Machine
end

section
/-! Register transfers and the stack (spec/41_transfer_stack.md R90-R99): the frame of an instruction that stores nothing,
what a push and a pull leave when the instruction retires, and the obligations on TAX ... TXS, PHA, PHP, PLA and PLP. -/

namespace Sys2Proof.Machine

/-! ### Frames -/

/-- A step that writes registers, P, the count and the record of the bus alone keeps memory and latches. -/
theorem kept_of_noStore {s t : State}
    (h : t = { s with
      a := t.a, x := t.x, y := t.y, sp := t.sp, p := t.p, pc := t.pc, cycles := t.cycles, trace := t.trace }) :
    MemoryKeptExcept [] s t ∧ LatchesKept s t := by
  have field {α : Type} (f : State → α) : f t = f { s with
      a := t.a, x := t.x, y := t.y, sp := t.sp, p := t.p, pc := t.pc, cycles := t.cycles, trace := t.trace } :=
    congrArg f h
  exact ⟨memoryKept_of_mem (s := s) (field State.mem) [] (field State.dev),
    field State.nmiPending, field State.fault, field State.irqIn, field State.inputs⟩

/-- An instruction that has not moved PC and whose transactions are `events` retires behind its own bytes (R12, R52). -/
theorem retired_retire {s u : State} {events : List Event} (l n : Nat) (hpc : u.pc = s.pc)
    (htrace : u.trace = events ++ s.trace) : Retired l n events s (u.retire l n) :=
  ⟨by rw [State.retire_pc_toNat, hpc], rfl, by rw [State.retire_trace, htrace]⟩

/-! ### Transfers -/

theorem State.transfer_reg (s : State) (src dst q : Reg) (n : Nat) :
    (s.transfer src dst n).reg q = if q = dst then s.reg src else s.reg q := by
  simp [State.transfer]

theorem State.transfer_p (s : State) (src dst : Reg) (n : Nat) :
    (s.transfer src dst n).p = putZN (s.reg src) s.p := by
  simp [State.transfer]

/-- A row of the transfer table is encoded as the table says, and is a transfer of two cycles that sets Z and N, or TXS,
the one row that writes S. -/
theorem transferRow_form {src dst : Reg} {row : Row} (h : transferRow src dst = some row) :
    row.Encoded 1 ∧ ((dst ≠ .s ∧ formOf row.instr = .transfer src dst 2) ∨
      (src = .x ∧ dst = .s ∧ formOf row.instr = .txs)) := by
  unfold transferRow at h
  split at h <;> cases h
  -- the sixth row of the table is TXS
  case h_6 => exact ⟨⟨rfl, rfl⟩, .inr ⟨rfl, rfl, rfl⟩⟩
  all_goals exact ⟨⟨rfl, rfl⟩, .inl ⟨by decide, rfl⟩⟩

/-- Settles O26: a row is `State.transfer`, which writes its destination and P, or TXS, which writes S alone
(`transferRow_form`). -/
theorem transfersCopyRegister : Obligations.TransfersCopyRegister := by
  intro src dst row s h
  obtain ⟨enc, ⟨hdst, form⟩ | ⟨rfl, rfl, form⟩⟩ := transferRow_form h
  · have frame : MemoryKeptExcept [] s (s.transfer src dst 2) ∧ LatchesKept s (s.transfer src dst 2) :=
      kept_of_noStore (by cases dst <;> rfl)
    refine ⟨s.transfer src dst 2, by rw [exec_eq, form]; rfl, enc, ?_, fun q hq => ?_,
      fun _ => ⟨znOf_of_p (s.transfer_p ..), flagsKept_of_putZN (s.transfer_p ..)⟩, (absurd · hdst),
      frame.1, frame.2, retired_retire 1 2 (by simp) (by simp)⟩
    · rw [State.transfer_reg, if_pos rfl]
    · rw [State.transfer_reg, if_neg (by simpa using hq)]
  · have frame : MemoryKeptExcept [] s ((s.setReg .s s.x).retire 1 2) ∧ LatchesKept s ((s.setReg .s s.x).retire 1 2) :=
      kept_of_noStore rfl
    refine ⟨(s.setReg .s s.x).retire 1 2, by rw [exec_eq, form]; rfl, enc, rfl, fun q hq => ?_, (absurd rfl ·),
      fun _ => rfl, frame.1, frame.2, retired_retire 1 2 rfl rfl⟩
    rw [State.retire_reg, State.setReg_reg, if_neg (by simpa using hq)]

/-! ### Pushes -/

/-- A push that retires: the byte in its slot, S one lower, and one write (R13, R96, R97). -/
theorem pushed_retire (v : Byte) (l n : Nat) (s : State) :
    let t := (s.push v).retire l n
    StoredAt (stackAddr s.sp) v s t ∧ t.sp = s.sp - 1 ∧ RegsKeptExcept [.s] s t ∧ t.p = s.p ∧ LatchesKept s t ∧
      Retired l n [.write (stackAddr s.sp) v] s t :=
  ⟨storedAt_of_mem rfl, rfl, regsKept_iff.mpr ⟨fun _ => rfl, fun _ => rfl, fun _ => rfl, fun h => (h (by simp)).elim⟩,
    rfl, ⟨rfl, rfl, rfl, rfl⟩, retired_retire l n rfl rfl⟩

/-- Settles O27: both are a push that retires, of A and of P with the break bit. -/
theorem pushesWriteStack : Obligations.PushesWriteStack := fun s =>
  ⟨⟨_, exec_eq .pha s, rfl, pushed_retire s.a 1 3 s⟩,
    ⟨_, exec_eq .php s, rfl, pushed_retire (statusWithBreak s.p) 1 3 s⟩⟩

/-! ### Pulls -/

/-- A pull whose byte goes to A and P alone, when it retires: S one higher, and one read (R13, R98, R99). -/
theorem pulled_retire {s u : State} (l n : Nat) (h : u = { s.pull.2 with a := u.a, p := u.p }) :
    let t := u.retire l n
    t.sp = s.sp + 1 ∧ MemoryKeptExcept [] s t ∧ LatchesKept s t ∧
      Retired l n [.read (stackAddr (s.sp + 1)) (s.busByte (stackAddr (s.sp + 1)))] s t := by
  have field {α : Type} (f : State → α) : f u = f { s.pull.2 with a := u.a, p := u.p } := congrArg f h
  have frame : MemoryKeptExcept [] s (u.retire l n) ∧ LatchesKept s (u.retire l n) := kept_of_noStore (by rw [h]; rfl)
  exact ⟨field State.sp, frame.1, frame.2, retired_retire l n (field State.pc) (field State.trace)⟩

/-- Settles O28: both are a pull that retires; PLA then writes A and, by `putZN`, P; PLP writes P alone. -/
theorem pullsReadStack : Obligations.PullsReadStack := by
  intro s slot m
  constructor
  · obtain ⟨sp, mem, latches, retired⟩ :=
      pulled_retire (s := s) (u := (s.pull.2.setReg .a s.pull.1).setZN s.pull.1) 1 4 rfl
    have regs : RegsKeptExcept [.a, .s] s (((s.pull.2.setReg .a s.pull.1).setZN s.pull.1).retire 1 4) :=
      regsKept_iff.mpr ⟨fun h => (h (by simp)).elim, fun _ => rfl, fun _ => rfl, fun h => (h (by simp)).elim⟩
    exact ⟨_, exec_eq .pla s, rfl, rfl, sp, regs, znOf_of_p rfl, flagsKept_of_putZN rfl, mem, latches, retired⟩
  · obtain ⟨sp, mem, latches, retired⟩ := pulled_retire (s := s) (u := s.pull.2.setStatus s.pull.1) 1 4 rfl
    have regs : RegsKeptExcept [.s] s ((s.pull.2.setStatus s.pull.1).retire 1 4) :=
      regsKept_iff.mpr ⟨fun _ => rfl, fun _ => rfl, fun _ => rfl, fun h => (h (by simp)).elim⟩
    exact ⟨_, exec_eq .plp s, rfl, statusForm_fromPulled m, fun f => getFlag_fromPulled f m, rfl, sp, regs, mem,
      latches, retired⟩

end Sys2Proof.Machine
end

section
/-! Arithmetic and compare (spec/42_arithmetic.md R100-R106): the adder and the subtracter against the numbers they
compute, the flags an instruction writes one after another, and the obligations on ADC, SBC, CMP, CPX and CPY. -/

namespace Sys2Proof.Machine

/-! ### The adder and the subtracter (R100) -/

/-- The result is the exact sum modulo 256. -/
theorem add8_r_toNat (a m : Byte) (c : Bool) : (add8 a m c).r.toNat = (a.toNat + m.toNat + c.toNat) % 256 :=
  BitVec.toNat_ofNat ..

theorem add8_cout (a m : Byte) (c : Bool) : (add8 a m c).cout = decide (256 ≤ a.toNat + m.toNat + c.toNat) := rfl

/-- A byte masked to bit 7 is its sign bit. -/
theorem and_signBit_ne_zero (b : Byte) : (b &&& 0x80 != 0) = b.msb := by
  rw [BitVec.msb_eq_getLsbD_last, show (0x80 : Byte) = BitVec.twoPow 8 7 from rfl, BitVec.and_twoPow]
  cases b.getLsbD 7 <;> rfl

/-- The overflow bit is set when both addends have the sign the result does not have. -/
theorem add8_v_eq (a m : Byte) (c : Bool) :
    (add8 a m c).v = ((a.msb ^^ (add8 a m c).r.msb) && (m.msb ^^ (add8 a m c).r.msb)) := by
  rw [← BitVec.msb_xor, ← BitVec.msb_xor, ← BitVec.msb_and]
  exact and_signBit_ne_zero _

/-- Signed overflow is exact: it is set exactly when the signed sum does not fit in a byte. -/
theorem add8_v_iff (a m : Byte) (c : Bool) :
    (add8 a m c).v = true ↔ ¬ (-128 ≤ a.toInt + m.toInt + c.toNat ∧ a.toInt + m.toInt + c.toNat ≤ 127) := by
  have := a.isLt
  have := m.isLt
  have := c.toNat_le
  have r := add8_r_toNat a m c
  simp only [add8_v_eq, BitVec.msb_eq_decide, BitVec.toInt_eq_toNat_cond, Bool.and_eq_true, Bool.xor_iff_ne,
    ne_eq, decide_eq_decide]
  omega

/-- The subtracter adds the one's complement, which is `255 - m` as a number. -/
theorem onesComplement_toNat (m : Byte) : (m ^^^ 0xFF).toNat = 255 - m.toNat := by
  rw [show (0xFF : Byte) = BitVec.allOnes 8 from rfl, BitVec.xor_allOnes, BitVec.toNat_not]

/-- The one's complement is `-1 - m` as a signed number. -/
theorem onesComplement_toInt (m : Byte) : (m ^^^ 0xFF).toInt = -1 - m.toInt := by
  have := m.isLt
  rw [BitVec.toInt_eq_toNat_cond, BitVec.toInt_eq_toNat_cond, onesComplement_toNat]
  omega

theorem sub8_r (a m : Byte) (c : Bool) : (sub8 a m c).r = a - m - (if c then 0 else 1) := by
  have := m.isLt
  have := c.toNat_le
  have borrow : (if c then 0 else 1 : Byte).toNat = 1 - c.toNat := by cases c <;> rfl
  apply BitVec.eq_of_toNat_eq
  rw [sub8, add8_r_toNat, onesComplement_toNat, BitVec.toNat_sub, BitVec.toNat_sub, borrow]
  omega

/-- The carry out of a subtraction is "no borrow". -/
theorem sub8_cout (a m : Byte) (c : Bool) : (sub8 a m c).cout = decide (m.toNat + (1 - c.toNat) ≤ a.toNat) := by
  have := m.isLt
  have := c.toNat_le
  rw [sub8, add8_cout, onesComplement_toNat, decide_eq_decide]
  omega

theorem sub8_v_iff (a m : Byte) (c : Bool) :
    (sub8 a m c).v = true ↔
      ¬ (-128 ≤ a.toInt - m.toInt - (1 - c.toNat : Int) ∧ a.toInt - m.toInt - (1 - c.toNat : Int) ≤ 127) := by
  have same : a.toInt + (-1 - m.toInt) + c.toNat = a.toInt - m.toInt - (1 - c.toNat : Int) := by ring
  rw [sub8, add8_v_iff, onesComplement_toInt, same]

/-! ### Flag writes in a row -/

/-- A write of a listed flag keeps the frame (R16). -/
theorem FlagsKeptExcept.setFlag {fs : List Flag} {s u : State} {f : Flag} (h : FlagsKeptExcept fs s u) (hf : f ∈ fs)
    (b : Bool) : FlagsKeptExcept fs s (u.setFlag f b) := by
  intro k hk out
  rw [State.setFlag_p, putFlag_getLsbD _ _ _ _ hk, if_neg (out f hf).symm, h k hk out]

/-- `setZN` writes Z and N (R6). -/
theorem FlagsKeptExcept.setZN {fs : List Flag} {s u : State} (h : FlagsKeptExcept fs s u) (hz : .z ∈ fs) (hn : .n ∈ fs)
    (v : Byte) : FlagsKeptExcept fs s (u.setZN v) :=
  (h.setFlag hz (v == 0)).setFlag hn (v.getLsbD 7)

theorem FlagsKeptExcept.setReg {fs : List Flag} {s u : State} (h : FlagsKeptExcept fs s u) (q : Reg) (v : Byte) :
    FlagsKeptExcept fs s (u.setReg q v) := fun k hk out => by rw [State.setReg_p, h k hk out]

theorem FlagsKeptExcept.retire {fs : List Flag} {s u : State} (h : FlagsKeptExcept fs s u) (l n : Nat) :
    FlagsKeptExcept fs s (u.retire l n) := h

/-- Reading the operand changes no flag (R69). -/
theorem flagsKept_operand (fs : List Flag) (s : State) (src : Source) : FlagsKeptExcept fs s (s.operand src).st :=
  fun _ _ _ => by rw [State.operand_p]

/-! ### ADC and SBC -/

/-- ADC and SBC, with `r` what the 8-bit operation `f` yields of A, the operand and C (R101, R102). -/
theorem State.arith_eq {f : Byte → Byte → Bool → AluResult} {src : Source} {s : State} {r : AluResult}
    (hr : r = f s.a (s.operand src).val (s.flag .c)) (n : Nat) :
    s.arith f src n =
      (((((s.operand src).st.setFlag .c r.cout).setFlag .v r.v).setReg .a r.r).setZN r.r).retire src.length
        (n + penalty (s.operand src).crossed) := by
  simp [State.arith, State.flag_eq, hr]

/-- What ADC and SBC do, whatever the 8-bit operation `f`: A, C and V are its result, carry and overflow, Z and N those
of the new A, and all else is kept (R101, R102). -/
theorem arith_effect {row : Row} {src : Source} (enc : row.Encoded src.length) (f : Byte → Byte → Bool → AluResult)
    (s : State) :
    let r := f s.a (s.operand src).val (s.flag .c)
    let t := s.arith f src row.base
    t.a = r.r ∧ t.flag .c = r.cout ∧ t.flag .v = r.v ∧ ZNOf t.a t ∧ FlagsKeptExcept [.n, .v, .z, .c] s t ∧
      RegsKeptExcept [.a] s t ∧ ReadsOperand row src s t := by
  intro r t
  have form := State.arith_eq (src := src) (s := s) (r := r) rfl row.base
  have a : t.a = r.r := congrArg State.a form
  have p : t.p = putZN r.r (putFlag .v r.v (putFlag .c r.cout s.p)) := by simp [t, form]
  refine ⟨a, by simp [State.flag_eq, p], by simp [State.flag_eq, p], a ▸ znOf_of_p p, ?_, fun q hq => ?_, ?_⟩ <;>
    simp only [t, form]
  · exact (((((flagsKept_operand _ s src).setFlag (by simp) _).setFlag (by simp) _).setReg _ _).setZN (by simp)
      (by simp) _).retire _ _
  · rw [State.retire_reg, State.setZN_reg, State.setReg_reg, if_neg (by simpa using hq)]
    exact s.operand_reg src q
  · exact readsOperand_retire enc rfl

theorem adcRow_form {src : Source} {row : Row} (h : adcRow src = some row) :
    formOf row.instr = .adc src row.base ∧ row.Encoded src.length := by
  unfold adcRow at h
  split at h <;> cases h <;> exact ⟨rfl, rfl, rfl⟩

theorem sbcRow_form {src : Source} {row : Row} (h : sbcRow src = some row) :
    formOf row.instr = .sbc src row.base ∧ row.Encoded src.length := by
  unfold sbcRow at h
  split at h <;> cases h <;> exact ⟨rfl, rfl, rfl⟩

/-- Settles O31: every row is `State.arith` with the adder (`adcRow_form`, `arith_effect`), whose result, carry and
overflow are exact. -/
theorem adcAddsWithCarry : Obligations.AdcAddsWithCarry := by
  intro src row s h m sum
  obtain ⟨form, enc⟩ := adcRow_form h
  obtain ⟨a, c, v, rest⟩ := arith_effect enc add8 s
  refine ⟨s.arith add8 src row.base, by rw [exec_eq, form]; rfl, ?_, c, ?_, rest⟩
  · rw [a, add8_r_toNat]
  · rw [v, add8_v_iff]

/-- Settles O32: every row is `State.arith` with the subtracter (`sbcRow_form`, `arith_effect`), whose result, carry and
overflow are exact. -/
theorem sbcSubtractsWithBorrow : Obligations.SbcSubtractsWithBorrow := by
  intro src row s h m
  obtain ⟨form, enc⟩ := sbcRow_form h
  obtain ⟨a, c, v, rest⟩ := arith_effect enc sub8 s
  refine ⟨s.arith sub8 src row.base, by rw [exec_eq, form]; rfl, ?_, ?_, ?_, rest⟩
  · rw [a, sub8_r]
  · rw [c, sub8_cout]
  · rw [v, sub8_v_iff]

/-! ### Compares -/

/-- What a compare writes: Z and N of the difference and C, and of the machine P alone apart from the operand's reads
(R103). -/
theorem State.compare_eq (s : State) (r : Reg) (src : Source) (n : Nat) :
    s.compare r src n =
      (((s.operand src).st.setFlag .c (decide ((s.operand src).val.toNat ≤ (s.reg r).toNat))).setZN
        (s.reg r - (s.operand src).val)).retire src.length (n + penalty (s.operand src).crossed) := by
  simp [State.compare, sub8_r, sub8_cout]

theorem State.compare_p (s : State) (r : Reg) (src : Source) (n : Nat) :
    (s.compare r src n).p = putZN (s.reg r - (s.operand src).val)
      (putFlag .c (decide ((s.operand src).val.toNat ≤ (s.reg r).toNat)) s.p) := by
  simp [State.compare_eq]

theorem readsOperand_compare {row : Row} {src : Source} (enc : row.Encoded src.length) (r : Reg) (s : State) :
    ReadsOperand row src s (s.compare r src row.base) := by
  rw [State.compare_eq]
  exact readsOperand_retire enc rfl

/-- A row of the compare table compares its register with its operand, with its base count, and is encoded as the table
says. -/
theorem compareRow_form {r : Reg} {src : Source} {row : Row} (h : compareRow r src = some row) :
    formOf row.instr = .compare r src row.base ∧ row.Encoded src.length := by
  cases r <;> simp only [compareRow] at h
  case a => unfold cmpRow at h; split at h <;> cases h <;> exact ⟨rfl, rfl, rfl⟩
  case x => unfold cpxRow at h; split at h <;> cases h <;> exact ⟨rfl, rfl, rfl⟩
  case y => unfold cpyRow at h; split at h <;> cases h <;> exact ⟨rfl, rfl, rfl⟩
  case s => cases h

/-- Settles O33: every row of the compare table is one `State.compare` (`compareRow_form`), which writes P alone; the
difference is zero exactly when register and operand are equal. -/
theorem comparesSetFlagsOnly : Obligations.ComparesSetFlagsOnly := by
  intro r src row s h m
  obtain ⟨form, enc⟩ := compareRow_form h
  obtain ⟨z, n⟩ : ZNOf (s.reg r - m) (s.compare r src row.base) := znOf_of_p (s.compare_p ..)
  refine ⟨s.compare r src row.base, by rw [exec_eq, form]; rfl, ?_, ?_, n, ?_, ?_, readsOperand_compare enc r s⟩
  · simp [State.flag_eq, State.compare_p, m]
  · rw [z, decide_eq_decide, sub_eq_zero]
  · rw [State.compare_eq]
    exact (((flagsKept_operand _ s src).setFlag (by simp) _).setZN (by simp) (by simp) _).retire _ _
  · intro q _
    rw [State.compare_eq, State.retire_reg, State.setZN_reg]
    exact s.operand_reg src q

end Sys2Proof.Machine
end

section
/-! Logic and bit test (spec/43_logic_shift.md R110-R113): what the bitwise operations and the bit test leave in
registers and P, and the obligations on AND, ORA, EOR and BIT. -/

namespace Sys2Proof.Machine

/-! ### AND, ORA and EOR -/

/-- A holds the combination of A and the operand; every other register is kept. -/
theorem State.logic_reg (f : Byte → Byte → Byte) (src : Source) (n : Nat) (s : State) (q : Reg) :
    (s.logic f src n).reg q = if q = .a then f s.a (s.operand src).val else s.reg q := by
  simp [State.logic]

theorem State.logic_p (f : Byte → Byte → Byte) (src : Source) (n : Nat) (s : State) :
    (s.logic f src n).p = putZN (f s.a (s.operand src).val) s.p := by
  simp [State.logic]

/-- What AND, ORA and EOR do, whatever the bitwise operation `f`: A is its result, Z and N are those of the new A, and
all else is kept (R110-R112). -/
theorem logic_effect {row : Row} {src : Source} (enc : row.Encoded src.length) (f : Byte → Byte → Byte) (s : State) :
    let t := s.logic f src row.base
    t.a = f s.a (s.operand src).val ∧ ZNOf t.a t ∧ FlagsKeptExcept [.z, .n] s t ∧ RegsKeptExcept [.a] s t ∧
      ReadsOperand row src s t := by
  intro t
  have a : t.a = f s.a (s.operand src).val := s.logic_reg f src row.base .a
  have p : t.p = putZN t.a s.p := a ▸ s.logic_p f src row.base
  refine ⟨a, znOf_of_p p, flagsKept_of_putZN p, fun q hq => ?_, readsOperand_retire enc rfl⟩
  rw [State.logic_reg, if_neg (by simpa using hq)]

theorem andRow_form {src : Source} {row : Row} (h : andRow src = some row) :
    formOf row.instr = .and src row.base ∧ row.Encoded src.length := by
  unfold andRow at h
  split at h <;> cases h <;> exact ⟨rfl, rfl, rfl⟩

theorem oraRow_form {src : Source} {row : Row} (h : oraRow src = some row) :
    formOf row.instr = .ora src row.base ∧ row.Encoded src.length := by
  unfold oraRow at h
  split at h <;> cases h <;> exact ⟨rfl, rfl, rfl⟩

theorem eorRow_form {src : Source} {row : Row} (h : eorRow src = some row) :
    formOf row.instr = .eor src row.base ∧ row.Encoded src.length := by
  unfold eorRow at h
  split at h <;> cases h <;> exact ⟨rfl, rfl, rfl⟩

/-- Settles O34: every row of the three tables is `State.logic` with its own bitwise operation (`andRow_form`,
`oraRow_form`, `eorRow_form`), whose effect is the same whatever the operation (`logic_effect`). -/
theorem logicCombinesAccumulator : Obligations.LogicCombinesAccumulator := by
  intro src row s f h
  obtain ⟨run, enc⟩ : (formOf row.instr).run s = s.logic f src row.base ∧ row.Encoded src.length := by
    obtain ⟨h, rfl⟩ | ⟨h, rfl⟩ | ⟨h, rfl⟩ := h
    · exact (andRow_form h).imp_left fun form => by rw [form, Form.run]
    · exact (oraRow_form h).imp_left fun form => by rw [form, Form.run]
    · exact (eorRow_form h).imp_left fun form => by rw [form, Form.run]
  exact ⟨s.logic f src row.base, by rw [exec_eq, run], logic_effect enc f s⟩

/-! ### BIT -/

@[simp] theorem State.setFlag_reg (s : State) (f : Flag) (b : Bool) (q : Reg) : (s.setFlag f b).reg q = s.reg q := by
  cases q <;> rfl

/-- What BIT writes: Z of `A & M`, and N and V from the operand alone (R113). -/
theorem State.bitTest_eq (src : Source) (n : Nat) (s : State) :
    s.bitTest src n =
      ((((s.operand src).st.setFlag .z (s.a &&& (s.operand src).val == 0)).setFlag .n
        ((s.operand src).val.getLsbD 7)).setFlag .v ((s.operand src).val.getLsbD 6)).retire src.length
        (n + penalty (s.operand src).crossed) := by
  simp [State.bitTest]

theorem State.bitTest_flag (src : Source) (n : Nat) (s : State) (f : Flag) :
    (s.bitTest src n).flag f =
      if f = .v then (s.operand src).val.getLsbD 6
      else if f = .n then (s.operand src).val.getLsbD 7
      else if f = .z then s.a &&& (s.operand src).val == 0
      else s.flag f := by
  simp [State.bitTest_eq, State.flag_eq]

theorem flagsKept_bitTest (src : Source) (n : Nat) (s : State) : FlagsKeptExcept [.z, .n, .v] s (s.bitTest src n) := by
  rw [State.bitTest_eq]
  exact ((((flagsKept_operand _ s src).setFlag (by simp) _).setFlag (by simp) _).setFlag (by simp) _).retire _ _

theorem State.bitTest_reg (src : Source) (n : Nat) (s : State) (q : Reg) : (s.bitTest src n).reg q = s.reg q := by
  simp [State.bitTest_eq]

theorem bitRow_form {src : Source} {row : Row} (h : bitRow src = some row) :
    formOf row.instr = .bit src row.base ∧ row.Encoded src.length := by
  unfold bitRow at h
  split at h <;> cases h <;> exact ⟨rfl, rfl, rfl⟩

/-- Settles O35: both rows are `State.bitTest` (`bitRow_form`), which writes three flags (`State.bitTest_flag`) and
nothing else but the operand's reads. -/
theorem bitTestsMemory : Obligations.BitTestsMemory := by
  intro src row s h m
  obtain ⟨form, enc⟩ := bitRow_form h
  exact ⟨s.bitTest src row.base, by rw [exec_eq, form, Form.run], s.bitTest_flag src row.base .z,
    s.bitTest_flag src row.base .n, s.bitTest_flag src row.base .v, flagsKept_bitTest src row.base s,
    fun q _ => s.bitTest_reg src row.base q, readsOperand_retire enc rfl⟩

end Sys2Proof.Machine
end

section
/-! Increment and decrement of a register (spec/44_incdec.md R122-R125): what the shared operation leaves in registers
and P, and the obligation on INX, INY, DEX and DEY. -/

namespace Sys2Proof.Machine

/-- The stepped register holds the sum; every other register is kept. -/
theorem State.incReg_reg (d : Byte) (r q : Reg) (n : Nat) (s : State) :
    (s.incReg d r n).reg q = if q = r then s.reg r + d else s.reg q := by
  simp [State.incReg]

theorem State.incReg_p (d : Byte) (r : Reg) (n : Nat) (s : State) :
    (s.incReg d r n).p = putZN (s.reg r + d) s.p := by
  simp [State.incReg]

/-- The instruction stores nothing, makes no access and retires behind its one byte (R52, R69). -/
theorem incReg_frame (d : Byte) (r : Reg) (n : Nat) (s : State) :
    MemoryKeptExcept [] s (s.incReg d r n) ∧ LatchesKept s (s.incReg d r n) ∧ Retired 1 n [] s (s.incReg d r n) := by
  obtain ⟨mem, latches⟩ : MemoryKeptExcept [] s (s.incReg d r n) ∧ LatchesKept s (s.incReg d r n) :=
    kept_of_noStore (by cases r <;> rfl)
  exact ⟨mem, latches, retired_retire 1 n (by simp) (by simp)⟩

/-- The byte that the instruction adds: 1, or -1 modulo 256. -/
def stepDelta (up : Bool) : Byte := if up then 1 else 0xFF

theorem stepDelta_toNat (up : Bool) : (stepDelta up).toNat = if up then 1 else 255 := by
  cases up <;> rfl

/-- A row of the table adds the direction's byte to its register in two cycles, and is encoded as the table says. -/
theorem stepRow_form {r : Reg} {up : Bool} {row : Row} (h : stepRow r up = some row) :
    formOf row.instr = .incReg (stepDelta up) r 2 ∧ row.Encoded 1 := by
  unfold stepRow at h
  split at h <;> cases h <;> exact ⟨rfl, rfl, rfl⟩

/-- Settles O39: every row is `State.incReg` (`stepRow_form`), which writes its register and P alone; the sum of bytes is
the sum of numbers modulo 256. -/
theorem incDecOfRegister : Obligations.IncDecOfRegister := by
  intro r up row s h
  obtain ⟨form, enc⟩ := stepRow_form h
  have sum : (s.incReg (stepDelta up) r 2).reg r = s.reg r + stepDelta up := by rw [State.incReg_reg, if_pos rfl]
  have p : (s.incReg (stepDelta up) r 2).p = putZN ((s.incReg (stepDelta up) r 2).reg r) s.p := by
    rw [sum, State.incReg_p]
  refine ⟨s.incReg (stepDelta up) r 2, by rw [exec_eq, form, Form.run], enc, ?_, fun q hq => ?_, znOf_of_p p,
    flagsKept_of_putZN p, incReg_frame (stepDelta up) r 2 s⟩
  · rw [sum, BitVec.toNat_add, stepDelta_toNat]
  · rw [State.incReg_reg, if_neg (by simpa using hq)]

end Sys2Proof.Machine
end

section
/-! Control transfer (spec/45_control.md R131-R141): what a push of a word and a transfer leave unchanged, the target
and the page test of a branch as numbers, and the obligations on JSR, RTS and the eight branches. -/

namespace Sys2Proof.Machine

/-! ### Subroutines (R131, R132) -/

@[simp] theorem State.pushWord_sp (s : State) (w : Word) : (s.pushWord w).sp = s.sp - 2 :=
  BitVec.sub_sub s.sp 1 1

/-- A control transfer changes no byte of the stack page. -/
theorem State.busByte_jumpTo_stack (s : State) (w : Word) (n : Nat) (q : Byte) :
    (s.jumpTo w n).busByte (stackAddr q) = s.busByte (stackAddr q) :=
  busByte_stack (s := s) (t := s.jumpTo w n) rfl q

/-- A push of a word and a transfer write PC, S, memory, the count and the record of the bus alone. -/
theorem pushWord_jumpTo_frame (s : State) (ret w : Word) (n : Nat) :
    let t := (s.pushWord ret).jumpTo w n
    RegsKeptExcept [.s] s t ∧ t.p = s.p ∧ LatchesKept s t := by
  simp [State.pushWord, regsKept_iff, LatchesKept]

/-- Settles O41: JSR is a push of the address of its last byte, whose slots `State.busByte_pushWord` names, and a
transfer to the operand. -/
theorem jsrPushesReturnAddress : Obligations.JsrPushesReturnAddress := by
  intro w s ret w0 w1
  have upper : s.sp ≠ s.sp - 1 := by bv_omega
  obtain ⟨regs, p, latches⟩ := pushWord_jumpTo_frame s ret w 6
  refine ⟨(s.pushWord ret).jumpTo w 6, exec_eq (.jsr w) s, rfl, rfl, ?_, ?_, s.pushWord_sp ret, regs, p,
    (s.pushWord_mem_frame ret).congr_mem rfl, latches, rfl, rfl⟩
  · rw [State.busByte_jumpTo_stack, State.busByte_pushWord, if_neg upper, if_pos rfl]
  · rw [State.busByte_jumpTo_stack, State.busByte_pushWord, if_pos rfl]

/-- Settles O42: RTS pulls a word by `State.pullWord_eq`, and transfers to the address after it. -/
theorem rtsPullsReturnAddress : Obligations.RtsPullsReturnAddress := by
  intro s w0 w1
  have run : exec .rts s = .next (s.pullWord.2.jumpTo (s.pullWord.1 + 1) 6) := exec_eq .rts s
  rw [State.pullWord_eq] at run
  refine ⟨_, run, rfl, ?_, rfl, ?_, rfl, ?_, ⟨rfl, rfl, rfl, rfl⟩, rfl, rfl⟩
  · rw [State.jumpTo_pc, BitVec.toNat_add, mkWord_toNat]
    rfl
  · exact regsKept_iff.mpr ⟨fun _ => rfl, fun _ => rfl, fun _ => rfl, fun h => (h (by simp)).elim⟩
  · exact memoryKept_of_mem (by rfl) []

/-! ### Branches (R133) -/

/-- The target of a branch is the next address plus the signed displacement, modulo 65536 (R65). -/
theorem relTarget_toNat (next : Word) (b : Byte) :
    (relTarget next b).toNat = (((next.toNat : Int) + b.toInt) % 65536).toNat := by
  have := b.isLt
  rw [relTarget, sext16, BitVec.toNat_add, BitVec.toNat_signExtend, BitVec.msb_eq_decide,
    BitVec.toInt_eq_toNat_cond, BitVec.toNat_setWidth]
  by_cases neg : 128 ≤ b.toNat <;> simp [neg] <;> omega

theorem pageOf_eq_iff (v w : Word) : pageOf v = pageOf w ↔ v.toNat / 256 = w.toNat / 256 := by
  rw [← BitVec.toNat_inj, pageOf, pageOf, hiByte_toNat, hiByte_toNat]

/-- A taken branch costs one cycle more to another page than that of the next instruction. -/
theorem taken_cycles (target next : Word) :
    3 + penalty (pageOf target != pageOf next) = if target.toNat / 256 = next.toNat / 256 then 3 else 4 := by
  by_cases same : pageOf target = pageOf next <;> simp [penalty, ← pageOf_eq_iff, same]

/-- A branch is a control transfer in either case, so it makes no access and writes PC and the count alone. -/
theorem branch_frame (f : Flag) (want : Bool) (b : Byte) (s : State) :
    let t := s.branch f want b
    (∃ n, t.cycles = some n ∧ t.trace = .tick n :: s.trace) ∧
      RegsKeptExcept [] s t ∧ t.p = s.p ∧ MemoryKeptExcept [] s t ∧ LatchesKept s t := by
  simp only [State.branch]
  split <;> exact ⟨⟨_, rfl, rfl⟩, kept_of_control rfl⟩

theorem State.branch_taken {f : Flag} {want : Bool} {s : State} (h : s.flag f = want) (b : Byte) :
    s.branch f want b = s.jumpTo (relTarget (s.pc + 2) b)
      (3 + penalty (pageOf (relTarget (s.pc + 2) b) != pageOf (s.pc + 2))) := if_pos h

theorem State.branch_not_taken {f : Flag} {want : Bool} {s : State} (h : s.flag f ≠ want) (b : Byte) :
    s.branch f want b = s.jumpTo (s.pc + 2) 2 := if_neg h

/-- A row of the branch table tests its flag for its value, and is encoded as the table says (R134-R141). -/
theorem branchRow_form {f : Flag} {want : Bool} {b : Byte} {row : Row} (h : branchRow f want b = some row) :
    formOf row.instr = .branch f want b ∧ encode row.instr = [row.opcode, b] ∧ row.base = 2 := by
  unfold branchRow at h
  split at h <;> cases h <;> exact ⟨rfl, rfl, rfl⟩

/-- Settles O44: every row is `State.branch` (`branchRow_form`), a transfer to the target or to the next instruction. -/
theorem branchesTestOneFlag : Obligations.BranchesTestOneFlag := by
  intro f want b row s h next target
  obtain ⟨form, enc, base⟩ := branchRow_form h
  have hnext : (s.pc + 2).toNat = next := BitVec.toNat_add ..
  have htarget : (relTarget (s.pc + 2) b).toNat = target := by rw [relTarget_toNat, hnext]
  refine ⟨s.branch f want b, by rw [exec_eq, form, Form.run], enc, fun taken => ?_, fun notTaken => ?_,
    branch_frame f want b s⟩
  · rw [State.branch_taken taken, State.jumpTo_pc, State.jumpTo_cycles, taken_cycles, htarget, hnext]
    exact ⟨rfl, rfl⟩
  · rw [State.branch_not_taken notTaken, base]
    exact ⟨hnext, rfl, rfl⟩

end Sys2Proof.Machine
end

section
/-! Flags, no-operation and system (spec/46_flags_system.md R150-R159): what a write of one flag leaves, the effect of
taking an exception, whatever its vector and status byte (spec/60_exceptions.md R176, R178), and the obligations on
CLC ... SED, NOP, BRK and RTI. -/

namespace Sys2Proof.Machine

/-! ### One flag (R150-R156) -/

theorem flag_of_putFlag {f : Flag} {b : Bool} {p : Byte} {t : State} (h : t.p = putFlag f b p) : t.flag f = b := by
  rw [State.flag_eq, h, getFlag_putFlag, if_pos rfl]

/-- A flag write keeps every other bit of P (R16). -/
theorem flagsKept_of_putFlag {f : Flag} {b : Bool} {s t : State} (h : t.p = putFlag f b s.p) :
    FlagsKeptExcept [f] s t := by
  intro k hk out
  rw [h, putFlag_getLsbD _ _ _ _ hk, if_neg (out f (List.mem_singleton_self f)).symm]

/-- A row of the flag table writes its flag, and is encoded as the table says. -/
theorem flagRow_form {f : Flag} {b : Bool} {row : Row} (h : flagRow f b = some row) :
    formOf row.instr = .flag f b ∧ row.Encoded 1 := by
  unfold flagRow at h
  split at h <;> cases h <;> exact ⟨rfl, rfl, rfl⟩

/-- Settles O45: every row is a flag write that retires (`flagRow_form`), and `putFlag` changes that bit of P alone. -/
theorem flagInstructionsWriteOneFlag : Obligations.FlagInstructionsWriteOneFlag := by
  intro f b row s h
  obtain ⟨form, enc⟩ := flagRow_form h
  obtain ⟨mem, latches⟩ :
      MemoryKeptExcept [] s ((s.setFlag f b).retire 1 2) ∧ LatchesKept s ((s.setFlag f b).retire 1 2) :=
    kept_of_noStore rfl
  refine ⟨(s.setFlag f b).retire 1 2, by rw [exec_eq, form, Form.run], enc, flag_of_putFlag rfl,
    flagsKept_of_putFlag rfl, fun q _ => ?_, mem, latches, retired_retire 1 2 rfl rfl⟩
  rw [State.retire_reg, State.setFlag_reg]

/-! ### No operation (R157) -/

/-- Settles O46: NOP is `State.retire` of one byte and two cycles, and `retire` writes PC, the count and the record
alone. -/
theorem nopChangesOnlyPc : Obligations.NopChangesOnlyPc := fun s => ⟨rfl, exec_eq .nop s⟩

/-! ### Taking an exception (R176, R178) -/

/-- What a read answers, and the record it leaves, depend on memory, the environment and the earlier record alone. -/
theorem State.memRead_congr {s t : State} (hm : t.mem = s.mem) (hd : t.dev = s.dev) (ht : t.trace = s.trace)
    (a : Word) :
    (t.memRead a).1 = (s.memRead a).1 ∧ (t.memRead a).2.trace = (s.memRead a).2.trace := by
  have byte : t.busByte a = s.busByte a := busByte_congr hm hd (history_congr ht) a
  simp [byte, ht]

theorem State.readPair_congr {s t : State} (hm : t.mem = s.mem) (hd : t.dev = s.dev) (ht : t.trace = s.trace)
    (lo hi : Word) :
    (t.readPair lo hi).1 = (s.readPair lo hi).1 ∧ (t.readPair lo hi).2.trace = (s.readPair lo hi).2.trace := by
  obtain ⟨low, first⟩ := State.memRead_congr hm hd ht lo
  obtain ⟨high, both⟩ := State.memRead_congr (s := (s.memRead lo).2) (t := (t.memRead lo).2) hm hd first hi
  exact ⟨congrArg₂ mkWord high low, both⟩

@[simp] theorem State.takeException_sp (ret : Word) (status : Byte) (vec : Word) (s : State) :
    (s.takeException ret status vec).sp = s.sp - 3 := by
  have three : s.sp - 2 - 1 = s.sp - 3 := by rw [BitVec.sub_sub]; rfl
  rw [← three, ← s.pushWord_sp ret]
  rfl

@[simp] theorem State.takeException_p (ret : Word) (status : Byte) (vec : Word) (s : State) :
    (s.takeException ret status vec).p = putFlag .i true s.p := by
  simp [State.takeException_eq, State.readPair_snd, State.pushWord]

/-- The three slots of an exception are different bytes of the stack page, so each holds what was pushed there. -/
theorem takeException_slots (ret : Word) (status : Byte) (vec : Word) (s : State) :
    (s.takeException ret status vec).busByte (stackAddr s.sp) = hiByte ret ∧
      (s.takeException ret status vec).busByte (stackAddr (s.sp - 1)) = loByte ret ∧
      (s.takeException ret status vec).busByte (stackAddr (s.sp - 2)) = status := by
  have h01 : s.sp ≠ s.sp - 1 := by bv_omega
  have h02 : s.sp ≠ s.sp - 2 := by bv_omega
  have h12 : s.sp - 1 ≠ s.sp - 2 := by bv_omega
  simp only [State.takeException_stack, if_neg h01, if_neg h02, if_neg h12, if_true, and_self]

theorem takeException_frame (ret : Word) (status : Byte) (vec : Word) (s : State) :
    RegsKeptExcept [.s] s (s.takeException ret status vec) ∧ LatchesKept s (s.takeException ret status vec) := by
  simp [regsKept_iff, LatchesKept, State.takeException_eq, State.readPair_snd, State.pushWord]

/-- Taking an exception does all of R176, for any return address, status byte and vector: its vector is read in a state
that agrees with the statement's on memory, the environment and the record, which fix the bytes
(`State.readPair_congr`). -/
theorem exceptionTaken_takeException (ret : Word) (status : Byte) (vec : Word) (s : State) :
    ExceptionTaken ret status vec s (s.takeException ret status vec) := by
  unfold ExceptionTaken
  intro w0 w1 w2 u l h
  obtain ⟨slot0, slot1, slot2⟩ := takeException_slots ret status vec s
  have mem : (((s.pushWord ret).push status).setFlag .i true).mem = u.mem := by simp [u, State.takeException_eq]
  have dev : (((s.pushWord ret).push status).setFlag .i true).dev = u.dev := by simp [u]
  have trace : (((s.pushWord ret).push status).setFlag .i true).trace = u.trace := s.pushWord_push_trace ret status
  obtain ⟨target, record⟩ := State.readPair_congr mem dev trace vec (vec + 1)
  exact ⟨slot0, slot1, slot2, s.takeException_sp ret status vec, flag_of_putFlag (s.takeException_p ret status vec),
    flagsKept_of_putFlag (s.takeException_p ret status vec), (takeException_frame ret status vec s).1,
    s.takeException_mem_frame ret status vec, target, rfl, congrArg (Event.tick 7 :: ·) record⟩

/-- Settles O47: BRK is `State.takeException` with the address behind the padding byte and the break bit, and does not
look at I. -/
theorem brkTakesSoftwareInterrupt : Obligations.BrkTakesSoftwareInterrupt := fun s =>
  ⟨rfl, _, exec_eq .brk s, exceptionTaken_takeException (s.pc + 2) (statusWithBreak s.p) irqVector s,
    (takeException_frame (s.pc + 2) (statusWithBreak s.p) irqVector s).2⟩

/-! ### Return from interrupt (R159) -/

/-- Settles O48: `State.returnFromException_eq` names the three slots and the fields that RTI writes. -/
theorem rtiRestoresStatusAndPc : Obligations.RtiRestoresStatusAndPc := by
  intro s w0 w1 w2
  have run : exec .rti s = .next (s.returnFromException 6) := exec_eq .rti s
  rw [State.returnFromException_eq] at run
  refine ⟨_, run, rfl, rfl, statusForm_fromPulled (s.busByte w0), fun f => getFlag_fromPulled f (s.busByte w0),
    mkWord_toNat _ _, rfl, ?_, ?_, ⟨rfl, rfl, rfl, rfl⟩, rfl, rfl⟩
  · exact regsKept_iff.mpr ⟨fun _ => rfl, fun _ => rfl, fun _ => rfl, fun out => (out (by simp)).elim⟩
  · exact memoryKept_of_mem (by rfl) []

end Sys2Proof.Machine
end

section
/-! The unassigned opcodes (spec/47_illegal.md R160): what the table of the 105 bytes says of each, the fetch of an
instruction without operand bytes, the step under a latched fault, and the obligation on `DecodeError`. -/

namespace Sys2Proof.Machine

/-- A row of the table of unassigned bytes is encoded by its byte alone, its matrix cell takes no operand byte, and it
latches `DecodeError` with that byte (R67, R160). -/
theorem unassignedRow_form {op : Byte} {i : Instr} (h : (op, i) ∈ unassignedRows) :
    encode i = [op] ∧ opcodeEntry op = .one i ∧ formOf i = .illegal op := by
  have encoded : unassignedRows.map (fun row => encode row.2) = unassignedRows.map (fun row => [row.1]) := rfl
  have cell : unassignedRows.map (fun row => opcodeEntry row.1) = unassignedRows.map (fun row => .one row.2) := rfl
  have form : unassignedRows.map (fun row => formOf row.2) = unassignedRows.map (fun row => .illegal row.1) := rfl
  exact ⟨List.map_inj_left.mp encoded _ h, List.map_inj_left.mp cell _ h, List.map_inj_left.mp form _ h⟩

/-- An opcode whose cell takes no operand byte is fetched by the one read at PC (R51, R52). -/
theorem fetch_of_entry_one {s : State} {i : Instr} (h : opcodeEntry (s.busByte s.pc) = .one i) :
    s.fetch = (i, s.note (.read s.pc (s.busByte s.pc))) := by
  simp [State.fetch, h]

/-- Under a latched fault, and with no action of the environment pending, there is no step (R18, R174). -/
theorem step_latched {s : State} {e : DecodeError} (hinputs : s.inputs = []) (hfault : s.fault = some e) :
    step s = .fault (.decodeErrorLatched e) := by
  simp [step, applyInputs_nil hinputs, State.poll, hfault]

/-- Settles O49: every row of the table is `State.raiseDecodeError` of its own byte (`unassignedRow_form`); the next step
meets the latch it set (`step_latched`), and a ready step reaches it by one read (`fetch_of_entry_one`). -/
theorem unassignedOpcodesLatchDecodeError : Obligations.UnassignedOpcodesLatchDecodeError := by
  intro op i h s
  obtain ⟨enc, cell, form⟩ := unassignedRow_form h
  have run (u : State) : exec i u = .next (u.raiseDecodeError op) := by rw [exec_eq, form, Form.run]
  refine ⟨enc, ⟨s.raiseDecodeError op, run s, rfl, fun hinputs => step_latched hinputs rfl⟩, fun ready byte => ?_⟩
  rw [← byte] at cell
  rw [step_ready ready, fetch_of_entry_one cell, run, byte]
  rfl

end Sys2Proof.Machine
end

section
/-! NMI and IRQ (spec/60_exceptions.md R174-R177): what the poll finds, the step it makes of it, and the obligations on
the two interrupt entries. -/

namespace Sys2Proof.Machine

/-- With the NMI latch set and no latched fault, the step is the NMI entry; the poll looks neither at I nor at the IRQ
level (R174, R175). -/
theorem step_nmi {s : State} (hinputs : s.inputs = []) (hfault : s.fault = none) (hnmi : s.nmiPending = true) :
    step s = .next s.enterNmi := by
  have found : s.poll = .nmi := by simp [State.poll, hfault, hnmi]
  simp [step, applyInputs_nil hinputs, found]

/-- With the IRQ level high, I = 0 and no NMI or fault latched, the step is the IRQ entry (R174, R177). -/
theorem step_irq {s : State} (hinputs : s.inputs = []) (hfault : s.fault = none) (hnmi : s.nmiPending = false)
    (hirq : s.irqIn = true) (hi : s.flag .i = false) : step s = .next s.enterIrq := by
  have found : s.poll = .irq := by simp [State.poll, hfault, hnmi, hirq, hi]
  simp [step, applyInputs_nil hinputs, found]

/-- The effect of an exception speaks of registers, flags, memory and the record alone: the NMI latch of the state it is
taken in plays no part. -/
theorem exceptionTaken_setNmiPending (b : Bool) (ret : Word) (status : Byte) (vec : Word) (s t : State) :
    ExceptionTaken ret status vec { s with nmiPending := b } t ↔ ExceptionTaken ret status vec s t := Iff.rfl

/-- NMI entry takes the exception at 0xFFFA (R175, R176). -/
theorem exceptionTaken_enterNmi (s : State) : ExceptionTaken s.pc s.p nmiVector s s.enterNmi :=
  (exceptionTaken_setNmiPending false s.pc s.p nmiVector s s.enterNmi).mp
    (exceptionTaken_takeException s.pc s.p nmiVector { s with nmiPending := false })

/-- NMI entry keeps the latches of the state with the NMI latch cleared (R174, R175). -/
theorem latchesKept_enterNmi (s : State) : LatchesKept { s with nmiPending := false } s.enterNmi :=
  (takeException_frame s.pc s.p nmiVector { s with nmiPending := false }).2

/-- Settles O50: the step is `State.enterNmi` (`step_nmi`), which takes the exception whatever I and the level are, and
clears the NMI latch alone. -/
theorem nmiEntryStep : Obligations.NmiEntryStep := by
  intro s hinputs hfault hnmi
  obtain ⟨latch, fault, level, inputs⟩ := latchesKept_enterNmi s
  exact ⟨s.enterNmi, step_nmi hinputs hfault hnmi, exceptionTaken_enterNmi s, latch, fault.trans hfault, level,
    inputs.trans hinputs⟩

/-- Settles O51: the step is `State.enterIrq` (`step_irq`), which takes the exception at 0xFFFE and keeps the latches and
the level. -/
theorem irqEntryStep : Obligations.IrqEntryStep := fun s hinputs hfault hnmi hirq hi =>
  ⟨s.enterIrq, step_irq hinputs hfault hnmi hirq hi, exceptionTaken_takeException s.pc s.p irqVector s,
    (takeException_frame s.pc s.p irqVector s).2⟩

end Sys2Proof.Machine
end

section
/-! Reset and hazards (spec/70_reset_and_hazards.md R190, R197): what `reset()` leaves in PC and on the record of the bus,
the latches after an instruction that can write I, and the two obligations. -/

namespace Sys2Proof.Machine

/-! ### The reset procedure (R190) -/

@[simp] theorem busTrace_read (a : Word) (v : Byte) (l : List Event) :
    busTrace (.read a v :: l) = .read a v :: busTrace l := rfl

@[simp] theorem busTrace_tick (n : Nat) (l : List Event) : busTrace (.tick n :: l) = busTrace l := rfl

/-- Reset seeds PC from the two vector bytes, the high one read after the low one. -/
theorem State.doReset_pc (s : State) :
    s.doReset.pc = mkWord ((s.note (.read 0xFFFC (s.busByte 0xFFFC))).busByte 0xFFFD) (s.busByte 0xFFFC) :=
  s.readPair_fst resetVector (resetVector + 1)

/-- Reset puts two reads on the record, and the cycles credited to the environment, which are no transaction (R192). -/
theorem State.doReset_trace (s : State) :
    s.doReset.trace = .tick Config.resetCycles ::
      .read 0xFFFD ((s.note (.read 0xFFFC (s.busByte 0xFFFC))).busByte 0xFFFD) ::
      .read 0xFFFC (s.busByte 0xFFFC) :: s.trace :=
  congrArg (fun u : State => Event.tick Config.resetCycles :: u.trace) (s.readPair_snd resetVector (resetVector + 1))

/-- Settles O14: PC and the record are those of the pair of vector reads (`State.doReset_pc`, `State.doReset_trace`); every
other field is assigned, or left, by `State.doReset` whatever the state was. -/
theorem resetProcedure : Obligations.ResetProcedure := by
  intro s t l h
  have pc : t.pc.toNat = h.toNat * 256 + l.toNat := by rw [s.doReset_pc, mkWord_toNat]; rfl
  have bus : busTrace t.trace = .read 0xFFFD h :: .read 0xFFFC l :: busTrace s.trace := by
    rw [s.doReset_trace, busTrace_tick, busTrace_read, busTrace_read]; rfl
  exact ⟨rfl, rfl, rfl, rfl, rfl, rfl, rfl, pc, bus, rfl, rfl, rfl⟩

/-! ### A change of I and the next poll (R197) -/

/-- CLI, SEI, PLP and RTI leave what the poll looks at besides I: the latches, the IRQ level and the script. -/
theorem latchesKept_of_writeI {i : Instr} (h : i ∈ [Instr.cli, .sei, .plp, .rti]) (s : State) :
    LatchesKept s ((formOf i).run s) := by
  simp only [List.mem_cons, List.not_mem_nil, or_false] at h
  obtain rfl | rfl | rfl | rfl := h <;> exact ⟨rfl, rfl, rfl, rfl⟩

/-- Settles O52: the instruction leaves the latches and the high level (`latchesKept_of_writeI`), so the next poll turns on
the I it left: clear, the step is the IRQ entry (`irqEntryStep`); set, the state is ready to fetch (`step_ready`). -/
theorem statusWritesTakeEffectAtNextPoll : Obligations.StatusWritesTakeEffectAtNextPoll := by
  intro i s hi hinputs hfault hnmi hirq
  have kept := latchesKept_of_writeI hi s
  rw [LatchesKept, hnmi, hfault, hirq, hinputs] at kept
  obtain ⟨latch, fault, level, inputs⟩ := kept
  refine ⟨(formOf i).run s, exec_eq i s, fun clear => ?_, fun masked => ?_⟩
  · obtain ⟨u, entry, taken, -⟩ := irqEntryStep _ inputs fault latch level clear
    exact ⟨u, entry, taken⟩
  · exact step_ready ⟨inputs, fault, latch, fun _ => masked⟩

end Sys2Proof.Machine
end

section
/-! Encoding (spec/30_encoding.md R50-R52, R66, R67): what an opcode byte's matrix cell makes of the operand bytes,
said once for both directions of the round trip, and the obligations on decoder and encoder. -/

namespace Sys2Proof

/-! ### A cell and its operand bytes -/

/-- The cell `e` makes the instruction `i` of the operand bytes, low byte first (R51, R43). -/
inductive Entry.Makes : Entry → List Byte → Instr → Prop where
  | one (i : Instr) : Makes (.one i) [] i
  | two (f : Byte → Instr) (b : Byte) : Makes (.two f) [b] (f b)
  | three (f : Word → Instr) (w : Word) : Makes (.three f) [loByte w, hiByte w] (f w)

/-- The decoder reads an opcode byte, the operand bytes its cell asks for, and leaves the rest (R50-R52). -/
theorem decode_eq_ok_iff {bytes rest : List Byte} {i : Instr} :
    decode bytes = .ok (i, rest) ↔
      ∃ op operand, bytes = op :: operand ++ rest ∧ (opcodeEntry op).Makes operand i := by
  constructor
  · intro h
    unfold decode at h
    split at h
    · cases h
    · next op tail =>
      split at h <;> cases h
      case h_1 cell => exact ⟨op, [], rfl, cell ▸ .one i⟩
      case h_2 f b cell => exact ⟨op, [b], rfl, cell ▸ .two f b⟩
      case h_3 f b1 b2 cell => exact ⟨op, [loByte (mkWord b2 b1), hiByte (mkWord b2 b1)], by simp, cell ▸ .three f _⟩
  · rintro ⟨op, operand, rfl, made⟩
    generalize cell : opcodeEntry op = e at made
    cases made <;> simp [decode, cell]

/-- An instruction's encoding is an opcode byte and the operand of which the byte's cell makes the instruction. -/
theorem encode_makes (i : Instr) :
    ∃ op operand, encode i = op :: operand ∧ (opcodeEntry op).Makes operand i := by
  cases i <;> exact ⟨_, _, rfl, by constructor⟩

/-- Every instruction that a cell makes is encoded by the opcode byte `op` and the operand. -/
inductive Entry.EncodedBy (op : Byte) : Entry → Prop where
  | one {i : Instr} (coded : encode i = [op]) : EncodedBy op (.one i)
  | two {f : Byte → Instr} (coded : ∀ b, encode (f b) = [op, b]) : EncodedBy op (.two f)
  | three {f : Word → Instr} (coded : ∀ w, encode (f w) = [op, loByte w, hiByte w]) : EncodedBy op (.three f)

/-- The matrix is the encoder read the other way, cell by cell (R66, "the same map by mnemonic"). -/
theorem opcodeEntry_encodedBy (op : Byte) : (opcodeEntry op).EncodedBy op := by
  obtain ⟨n, h, rfl⟩ : ∃ n < 256, op = BitVec.ofNat 8 n := ⟨op.toNat, op.isLt, by simp⟩
  interval_cases n <;> constructor <;> intros <;> rfl

theorem encode_of_makes {op : Byte} {operand : List Byte} {i : Instr} (made : (opcodeEntry op).Makes operand i) :
    encode i = op :: operand := by
  have cell := opcodeEntry_encodedBy op
  generalize opcodeEntry op = e at made cell
  cases cell with
  | one coded => cases made; exact coded
  | two coded => cases made; exact coded _
  | three coded => cases made; exact coded _

/-- A cell makes an instruction of one, two or three bytes (R51). -/
theorem Entry.Makes.operand_length {e : Entry} {operand : List Byte} {i : Instr} (made : e.Makes operand i) :
    operand.length ≤ 2 := by
  cases made <;> simp

theorem Instr.length_le_three (i : Instr) : i.length ≤ 3 := by
  obtain ⟨op, operand, coded, made⟩ := encode_makes i
  have := made.operand_length
  rw [Instr.length, coded, List.length_cons]
  omega

/-! ### The obligations -/

/-- Settles O1: the encoding is an opcode byte and an operand of its cell (`encode_makes`), which is what the decoder
reads. -/
theorem decodeOfEncode : Obligations.DecodeOfEncode := by
  intro i rest _
  obtain ⟨op, operand, coded, made⟩ := encode_makes i
  exact decode_eq_ok_iff.mpr ⟨op, operand, by rw [coded], made⟩

/-- Settles O2: what the decoder read was made by the cell of its opcode byte, and the encoder writes that byte and
operand (`encode_of_makes`). -/
theorem encodeOfDecode : Obligations.EncodeOfDecode := by
  intro bytes rest i h
  obtain ⟨op, operand, rfl, made⟩ := decode_eq_ok_iff.mp h
  rw [encode_of_makes made]

/-- With two bytes behind the opcode byte every cell has its operand (R51). -/
theorem exists_makes (e : Entry) (b1 b2 : Byte) (rest : List Byte) :
    ∃ i operand tail, b1 :: b2 :: rest = operand ++ tail ∧ e.Makes operand i := by
  cases e with
  | one i => exact ⟨i, [], _, rfl, .one i⟩
  | two f => exact ⟨f b1, [b1], _, rfl, .two f b1⟩
  | three f => exact ⟨f (mkWord b2 b1), _, rest, by simp, .three f (mkWord b2 b1)⟩

/-- Settles O3: whatever the cell of the first byte, its operand is there (`exists_makes`), and the instruction's
length is that of the bytes read (`encode_of_makes`). -/
theorem everyByteDecodes : Obligations.EveryByteDecodes := by
  intro b0 b1 b2 rest
  obtain ⟨i, operand, tail, split, made⟩ := exists_makes (opcodeEntry b0) b1 b2 rest
  have length : i.length = operand.length + 1 := by rw [Instr.length, encode_of_makes made, List.length_cons]
  refine ⟨i, tail, decode_eq_ok_iff.mpr ⟨b0, operand, by rw [split, List.cons_append], made⟩, by omega,
    i.length_le_three, ?_⟩
  rw [length, List.drop_succ_cons, split, List.drop_left]

/-- Settles O4: each word is decoded by computation. -/
theorem specWordsDecode : Obligations.SpecWordsDecode := by
  unfold Obligations.SpecWordsDecode
  decide

/-- An instruction is an assigned one, or it is in the list with the byte that encodes it (R67). -/
theorem isAssigned_or_listed (i : Instr) :
    (i.isAssigned || Machine.unassignedRows.contains ((encode i).headD 0x00, i)) = true := by
  cases i <;> rfl

theorem not_isAssigned_of_listed {op : Byte} {i : Instr} (h : (op, i) ∈ Machine.unassignedRows) :
    i.isAssigned = false := by
  have unassigned :
      Machine.unassignedRows.map (fun row => row.2.isAssigned) = Machine.unassignedRows.map fun _ => false := rfl
  exact List.map_inj_left.mp unassigned _ h

/-- Settles O5: no listed instruction is an assigned one, and one that is not assigned is listed with its own opcode
byte (`isAssigned_or_listed`), which is the byte it was decoded from (`encodeOfDecode`). -/
theorem unassignedBytesAreTheListed : Obligations.UnassignedBytesAreTheListed := by
  refine ⟨rfl, by decide, fun op rest tail i h => ⟨fun unassigned => ?_, not_isAssigned_of_listed⟩⟩
  obtain ⟨_, operand, split, made⟩ := decode_eq_ok_iff.mp h
  obtain ⟨rfl, -⟩ := List.cons.inj split
  have listed := isAssigned_or_listed i
  rw [unassigned, encode_of_makes made] at listed
  simpa using listed

end Sys2Proof
end

section
/-! The fetch and the step (spec/30_encoding.md R52, spec/60_exceptions.md R174): what the fetch reads, by the cell of
the opcode byte; what the poll makes of a step; and the obligations on both. -/

namespace Sys2Proof.Machine

/-! ### The cell of a whole encoding -/

theorem decode_all_iff {op : Byte} {operand : List Byte} {i : Instr} :
    decode (op :: operand) = .ok (i, []) ↔ (opcodeEntry op).Makes operand i := by
  simp [decode_eq_ok_iff]

theorem makes_nil_iff {e : Entry} {i : Instr} : e.Makes [] i ↔ e = .one i :=
  ⟨fun made => by cases made; rfl, fun cell => cell ▸ .one i⟩

theorem makes_byte_iff {e : Entry} {b : Byte} {i : Instr} : e.Makes [b] i ↔ ∃ f, e = .two f ∧ i = f b :=
  ⟨fun made => by cases made; exact ⟨_, rfl, rfl⟩, fun ⟨f, cell, made⟩ => cell ▸ made ▸ .two f b⟩

theorem makes_word_iff {e : Entry} {b1 b2 : Byte} {i : Instr} :
    e.Makes [b1, b2] i ↔ ∃ f, e = .three f ∧ i = f (mkWord b2 b1) := by
  constructor
  · intro made
    cases made with
    | three f w => exact ⟨f, rfl, by rw [mkWord_hi_lo]⟩
  · rintro ⟨f, rfl, rfl⟩
    simpa using Entry.Makes.three f (mkWord b2 b1)

/-! ### The fetch (R52) -/

theorem fetch_of_entry_two {s : State} {f : Byte → Instr} (h : opcodeEntry (s.busByte s.pc) = .two f) :
    s.fetch = (f ((s.memRead s.pc).2.memRead (s.pc + 1)).1, ((s.memRead s.pc).2.memRead (s.pc + 1)).2) := by
  simp [State.fetch, h]

theorem fetch_of_entry_three {s : State} {f : Word → Instr} (h : opcodeEntry (s.busByte s.pc) = .three f) :
    s.fetch = (f ((s.memRead s.pc).2.readPair (s.pc + 1) (s.pc + 2)).1,
      ((s.memRead s.pc).2.readPair (s.pc + 1) (s.pc + 2)).2) := by
  simp [State.fetch, h]

/-- Settles O6: the bytes given are the opcode byte and the whole operand of its cell (`decode_all_iff`), so they are
the bytes that the fetch reads. -/
theorem stepRunsDecodedInstruction : Obligations.StepRunsDecodedInstruction := by
  intro s i ready _ r0 r1 r2
  rw [step_ready ready]
  refine ⟨fun h => ?_, fun h => ?_, fun h => ?_⟩
  · have cell := makes_nil_iff.mp (decode_all_iff.mp h)
    rw [fetch_of_entry_one cell]
    rfl
  · obtain ⟨f, cell, rfl⟩ := makes_byte_iff.mp (decode_all_iff.mp h)
    rw [fetch_of_entry_two cell]
  · obtain ⟨f, cell, rfl⟩ := makes_word_iff.mp (decode_all_iff.mp h)
    rw [fetch_of_entry_three cell]
    rfl

/-- A fetch reads the opcode byte and then the operand of its cell, one transaction for each byte of the instruction
(R52). -/
theorem fetch_reads (s : State) :
    ∃ reads, s.fetch.2.trace = reads ++ s.trace ∧ reads.length = s.fetch.1.length ∧ busTrace reads = reads := by
  cases cell : opcodeEntry (s.busByte s.pc) with
  | one i =>
    have coded := encode_of_makes (cell ▸ Entry.Makes.one i)
    rw [fetch_of_entry_one cell, Instr.length, coded]
    exact ⟨[_], rfl, rfl, rfl⟩
  | two f =>
    have coded b := encode_of_makes (cell ▸ Entry.Makes.two f b)
    rw [fetch_of_entry_two cell, Instr.length, coded]
    exact ⟨[_, _], rfl, rfl, rfl⟩
  | three f =>
    have coded w := encode_of_makes (cell ▸ Entry.Makes.three f w)
    rw [fetch_of_entry_three cell, Instr.length, coded]
    exact ⟨[_, _, _], rfl, rfl, rfl⟩

/-! ### A placed word (log 42) -/

theorem busByte_of_cell {s : State} {a : Word} {v : Byte} (h : s.cell a = some v) : s.busByte a = v := by
  simp [State.busByte, h]

/-- The fetch of bytes that are known, whatever the record of the bus, is the decoder's instruction (R52, R67). -/
theorem decode_of_cells {s : State} {b0 b1 b2 : Byte} (h0 : s.cell s.pc = some b0) (h1 : s.cell (s.pc + 1) = some b1)
    (h2 : s.cell (s.pc + 2) = some b2) : ∃ rest, decode [b0, b1, b2] = .ok (s.fetch.1, rest) := by
  have read0 : s.busByte s.pc = b0 := busByte_of_cell h0
  have read1 e : (s.note e).busByte (s.pc + 1) = b1 := busByte_of_cell (s := s.note e) h1
  have read2 e e' : ((s.note e).note e').busByte (s.pc + 2) = b2 := busByte_of_cell (s := (s.note e).note e') h2
  have cells : opcodeEntry (s.busByte s.pc) = opcodeEntry b0 := congrArg opcodeEntry read0
  cases cell : opcodeEntry b0 with
  | one i =>
    rw [fetch_of_entry_one (cells.trans cell)]
    exact ⟨[b1, b2], decode_eq_ok_iff.mpr ⟨b0, [], rfl, makes_nil_iff.mpr cell⟩⟩
  | two f =>
    rw [fetch_of_entry_two (cells.trans cell)]
    exact ⟨[b2], decode_eq_ok_iff.mpr ⟨b0, [b1], rfl, makes_byte_iff.mpr ⟨f, cell, congrArg f (read1 _)⟩⟩⟩
  | three f =>
    rw [fetch_of_entry_three (cells.trans cell)]
    exact ⟨[], decode_eq_ok_iff.mpr ⟨b0, [b1, b2], rfl, makes_word_iff.mpr
      ⟨f, cell, congrArg f (congrArg₂ mkWord (read2 _ _) (read1 _))⟩⟩⟩

/-- The three bytes at 0x8000 are those of the placed word: the reset vector, which is placed after them, lies
elsewhere (log 42). -/
theorem cell_withFetchWord (s : State) (nbits w : Nat) {k : Nat} (hk : k < 3) :
    (s.withFetchWord nbits w).cell (BitVec.ofNat 16 (0x8000 + k)) = (tableBytes nbits w)[k]? := by
  have address : (BitVec.ofNat 16 (0x8000 + k)).toNat = 0x8000 + k := by rw [BitVec.toNat_ofNat]; omega
  have length : (tableBytes nbits w).length = 3 := rfl
  have listed : (tableBytes nbits w)[k]? = some ((tableBytes nbits w)[k]'(by omega)) := List.getElem?_eq_getElem _
  have outside : inRam (BitVec.ofNat 16 (0x8000 + k)) = false := by
    rw [← Bool.not_eq_true, inRam_iff]
    omega
  have load : loadAddr.toNat = 0x8000 := rfl
  have vector : resetVector.toNat = 0xFFFC := rfl
  rw [cell_dev outside, State.withFetchWord, Dev.known, if_neg (by omega), romByte_eq, address, Memory.get?_setAll,
    if_neg (by omega), Memory.get?_setAll, if_pos (by omega), load, Nat.add_sub_cancel_left, listed, Option.getD_some]

/-- Settles O7: the placed bytes are known (`cell_withFetchWord`), so the fetch of the ready state makes of them what
the decoder makes (`decode_of_cells`), by one read a byte (`fetch_reads`). -/
theorem placedWordRunsNext : Obligations.PlacedWordRunsNext := by
  intro s nbits w i h
  have ready : (s.withFetchWord nbits w).ReadyToFetch := ⟨rfl, rfl, rfl, fun high => nomatch high⟩
  obtain ⟨rest, decoded⟩ := decode_of_cells (s := s.withFetchWord nbits w)
    (cell_withFetchWord s nbits w (k := 0) (by decide)) (cell_withFetchWord s nbits w (k := 1) (by decide))
    (cell_withFetchWord s nbits w (k := 2) (by decide))
  have fetched : (s.withFetchWord nbits w).fetch.1 = i := by
    rw [decodeTableWord, show tableBytes nbits w = [_, _, _] from rfl, decoded] at h
    exact Option.some.inj h
  obtain ⟨reads, trace, length, -⟩ := fetch_reads (s.withFetchWord nbits w)
  have field {α : Type} (f : State → α) := congrArg f (fetch_st (s.withFetchWord nbits w))
  rw [fetched] at length
  have short : i.length ≤ 3 := i.length_le_three
  refine ⟨(s.withFetchWord nbits w).fetch.2, by rw [step_ready ready, fetched], field State.pc, fun q _ => ?_,
    field State.p, fun k hk => ?_, ?_⟩
  · exact State.reg_congr s _ (field State.a) (field State.x) (field State.y) (field State.sp) q
  · rw [← cell_withFetchWord s nbits w (by omega)]
    exact cell_congr (field State.mem) (field State.dev) _
  · rw [trace, List.length_append, length, Nat.add_comm]
    rfl

/-! ### The poll (R174) -/

/-- Settles O8: the poll looks at the latches and the level in this order. -/
theorem pollOrder : Obligations.PollOrder := by
  rintro s u rfl
  refine ⟨fun e fault => ?_, fun fault nmi => ?_, fun fault nmi irq clear => ?_, fun fault nmi quiet => ?_⟩
  · simp [step, State.poll, fault]
  · simp [step, State.poll, fault, nmi]
  · simp [step, State.poll, fault, nmi, irq, clear]
  · rcases quiet with low | masked
    · simp [step, State.poll, fault, nmi, low]
    · simp [step, State.poll, fault, nmi, masked]

/-- The poll is stuck exactly under a latched fault (R170, R174). -/
theorem poll_eq_stuck_iff {s : State} {e : DecodeError} : s.poll = .stuck e ↔ s.fault = some e := by
  cases latch : s.fault with
  | none => simp only [State.poll, latch]; split <;> [skip; split] <;> simp
  | some e' => simp [State.poll, latch]

/-- Without a latched fault there is a step, whatever the poll finds: every instruction and every entry answers a next
state (R33, R205). -/
theorem step_of_no_fault {s : State} (h : s.applyInputs.fault = none) : ∃ t, step s = .next t := by
  unfold step
  cases found : s.applyInputs.poll with
  | stuck e => rw [poll_eq_stuck_iff, h] at found; cases found
  | nmi => exact ⟨_, rfl⟩
  | irq => exact ⟨_, rfl⟩
  | instruction => exact ⟨_, exec_eq _ _⟩

/-- Settles O9: a latched fault stops the step, and nothing else does (`step_of_no_fault`). -/
theorem onlyALatchedFaultStops : Obligations.OnlyALatchedFaultStops := by
  intro s
  cases latch : s.applyInputs.fault with
  | none =>
    obtain ⟨t, next⟩ := step_of_no_fault latch
    simp [next]
  | some e =>
    have stop : step s = .fault (.decodeErrorLatched e) := (pollOrder s _ rfl).1 e latch
    simp [stop]

end Sys2Proof.Machine
end

section
/-! What an instruction writes (spec/10_state.md R11-R19, spec/30_encoding.md R69): a footprint for each shared
operation of `Form`, the one lemma that every form stays within its own (`Form.within`), and the obligations on all
256 instructions that follow from it. -/

namespace Sys2Proof.Machine

/-! ### Footprints -/

/-- What an operation may write of the machine besides PC, the count and the record of the bus. -/
structure Footprint where
  /-- Registers (R11, R13). -/
  regs : List Reg := []
  /-- Flags, one by one (R14). -/
  flags : List Flag := []
  /-- The whole of P, as PLP and RTI do (R15). -/
  status : Bool := false
  /-- Memory (R69). -/
  stores : Bool := false
  /-- The fault latch (R18, R160). -/
  faults : Bool := false

/-- The footprint of each form (R11-R14, R69, R160). -/
def Form.footprint : Form → Footprint
  | .load r _ _ | .transfer _ r _ | .incReg _ r _ => { regs := [r], flags := [.z, .n] }
  | .and _ _ | .ora _ _ | .eor _ _ => { regs := [.a], flags := [.z, .n] }
  | .adc _ _ | .sbc _ _ => { regs := [.a], flags := [.n, .v, .z, .c] }
  | .compare _ _ _ => { flags := [.n, .z, .c] }
  | .bit _ _ => { flags := [.z, .n, .v] }
  | .shiftAcc _ _ => { regs := [.a], flags := [.n, .z, .c] }
  | .shiftMem _ _ _ => { flags := [.n, .z, .c], stores := true }
  | .incMem _ _ _ => { flags := [.z, .n], stores := true }
  | .store _ _ _ => { stores := true }
  | .pha | .php | .jsr _ => { regs := [.s], stores := true }
  | .brk => { regs := [.s], flags := [.i], stores := true }
  | .pla => { regs := [.a, .s], flags := [.z, .n] }
  | .plp | .rti => { regs := [.s], status := true }
  | .txs | .rts => { regs := [.s] }
  | .flag f _ => { flags := [f] }
  | .jmp _ | .jmpInd _ | .branch _ _ _ | .nop => {}
  | .illegal _ => { faults := true }

/-- From `s` to `t` nothing outside the footprint changed, and the forms of P (R15) and memory (log 35) were kept. -/
structure Within (w : Footprint) (s t : State) : Prop where
  regs : RegsKeptExcept w.regs s t
  flags : w.status = false → FlagsKeptExcept w.flags s t
  form : StatusForm s.p → StatusForm t.p
  mem : w.stores = false → t.mem = s.mem
  wf : s.mem.wf = true → t.mem.wf = true
  fault : w.faults = false → t.fault = s.fault
  dev : t.dev = s.dev
  nmiPending : t.nmiPending = s.nmiPending
  irqIn : t.irqIn = s.irqIn
  inputs : t.inputs = s.inputs

namespace Within

variable {w : Footprint} {s t u : State}

theorem refl (w : Footprint) (s : State) : Within w s s :=
  ⟨fun _ _ => rfl, fun _ _ _ _ => rfl, id, fun _ => rfl, id, fun _ => rfl, rfl, rfl, rfl, rfl⟩

/-- PC, the count and the record of the bus are in no footprint. -/
theorem control (h : Within w s t) (hu : u = { t with pc := u.pc, cycles := u.cycles, trace := u.trace }) :
    Within w s u := by
  rw [hu]
  exact ⟨h.regs, h.flags, h.form, h.mem, h.wf, h.fault, h.dev, h.nmiPending, h.irqIn, h.inputs⟩

theorem retire (h : Within w s t) (l n : Nat) : Within w s (t.retire l n) := h.control rfl

theorem jumpTo (h : Within w s t) (target : Word) (n : Nat) : Within w s (t.jumpTo target n) := h.control rfl

theorem memRead (h : Within w s t) (a : Word) : Within w s (t.memRead a).2 := h.control rfl

theorem readPair (h : Within w s t) (lo hi : Word) : Within w s (t.readPair lo hi).2 := h.control rfl

theorem locate (w : Footprint) (s : State) (m : Mode) : Within w s (s.locate m).st :=
  (refl w s).control (by rw [State.locate_st])

theorem operand (w : Footprint) (s : State) (src : Source) : Within w s (s.operand src).st :=
  (refl w s).control (by rw [State.operand_st])

/-! The writes. Each asks that what it writes is in the footprint, as a form's own footprint shows by computation. -/

theorem setReg (h : Within w s t) {r : Reg} (v : Byte) (hr : r ∈ w.regs := by simp [Form.footprint]) :
    Within w s (t.setReg r v) where
  regs q hq := by
    have other : q ≠ r := fun e => hq (e ▸ hr)
    rw [State.setReg_reg, if_neg other, h.regs q hq]
  flags single := (h.flags single).setReg r v
  form := by simpa using h.form
  mem := by simpa using h.mem
  wf := by simpa using h.wf
  fault := by simpa using h.fault
  dev := by simpa using h.dev
  nmiPending := by simpa using h.nmiPending
  irqIn := by simpa using h.irqIn
  inputs := by simpa using h.inputs

theorem setFlag (h : Within w s t) {f : Flag} (b : Bool) (hf : f ∈ w.flags := by simp [Form.footprint]) :
    Within w s (t.setFlag f b) :=
  { h with
    regs := fun q hq => by rw [State.setFlag_reg, h.regs q hq]
    flags := fun single => (h.flags single).setFlag hf b
    form := fun hs => statusForm_putFlag f b (h.form hs) }

theorem setZN (h : Within w s t) (v : Byte) (hz : .z ∈ w.flags := by simp [Form.footprint])
    (hn : .n ∈ w.flags := by simp [Form.footprint]) : Within w s (t.setZN v) :=
  (h.setFlag (v == 0) hz).setFlag (v.getLsbD 7) hn

theorem setStatus (h : Within w s t) (m : Byte) (hw : w.status = true := by rfl) : Within w s (t.setStatus m) :=
  { h with
    regs := fun q hq => by rw [← h.regs q hq]; cases q <;> rfl
    flags := fun single => nomatch hw.symm.trans single
    form := fun _ => statusForm_fromPulled m }

theorem memWrite (h : Within w s t) (a : Word) (v : Byte) (hw : w.stores = true := by rfl) :
    Within w s (t.memWrite a v) :=
  { h with
    regs := fun q hq => by rw [← h.regs q hq]; cases q <;> rfl
    mem := fun noStore => nomatch hw.symm.trans noStore
    wf := fun hs => Memory.wf_memWrite (h.wf hs) a v }

/-! The stack operations: a byte of memory, S, or both (R13). -/

theorem push (h : Within w s t) (v : Byte) (hw : w.stores = true := by rfl)
    (hr : .s ∈ w.regs := by simp [Form.footprint]) : Within w s (t.push v) :=
  (h.memWrite (stackAddr t.sp) v hw).setReg (t.sp - 1) hr

theorem pull (h : Within w s t) (hr : .s ∈ w.regs := by simp [Form.footprint]) : Within w s t.pull.2 :=
  (h.setReg (t.sp + 1) hr).memRead _

theorem pushWord (h : Within w s t) (v : Word) (hw : w.stores = true := by rfl)
    (hr : .s ∈ w.regs := by simp [Form.footprint]) : Within w s (t.pushWord v) :=
  (h.push _ hw hr).push _ hw hr

theorem pullWord (h : Within w s t) (hr : .s ∈ w.regs := by simp [Form.footprint]) : Within w s t.pullWord.2 :=
  (h.pull hr).pull hr

/-- Taking an exception writes S, I and memory (R176). -/
theorem takeException (h : Within w s t) (ret : Word) (status : Byte) (vec : Word) (hw : w.stores = true := by rfl)
    (hr : .s ∈ w.regs := by simp [Form.footprint]) (hf : .i ∈ w.flags := by simp [Form.footprint]) :
    Within w s (t.takeException ret status vec) :=
  ((((h.pushWord ret hw hr).push status hw hr).setFlag true hf).readPair _ _).jumpTo _ _

end Within

/-- Every form writes within its footprint: each is a chain of reads and writes that ends in `retire` or `jumpTo`. -/
theorem Form.within (f : Form) (s : State) : Within f.footprint s (f.run s) := by
  have start := Within.refl f.footprint s
  have operand := Within.operand f.footprint s
  have locate := Within.locate f.footprint s
  cases f with
  | load r src n => exact (((operand src).setReg _).setZN _).retire _ _
  | store r m n => exact ((locate m).memWrite _ _).retire _ _
  | transfer src dst n => exact ((start.setReg _).setZN _).retire _ _
  | txs => exact (start.setReg _).retire _ _
  | pha | php => exact (start.push _).retire _ _
  | pla => exact ((start.pull.setReg _).setZN _).retire _ _
  | plp => exact (start.pull.setStatus _).retire _ _
  | adc src n | sbc src n => exact (((((operand src).setFlag _).setFlag _).setReg _).setZN _).retire _ _
  | compare r src n => exact (((operand src).setFlag _).setZN _).retire _ _
  | and src n | ora src n | eor src n => exact (((operand src).setReg _).setZN _).retire _ _
  | bit src n => exact ((((operand src).setFlag _).setFlag _).setFlag _).retire _ _
  | shiftAcc op n => exact (((start.setFlag _).setZN _).setReg _).retire _ _
  | shiftMem op m n => exact (((((locate m).memRead _).setFlag _).setZN _).memWrite _ _).retire _ _
  | incMem d m n => exact ((((locate m).memRead _).setZN _).memWrite _ _).retire _ _
  | incReg d r n => exact ((start.setReg _).setZN _).retire _ _
  | jmp target => exact start.jumpTo _ _
  | jmpInd ptr => exact (start.readPair _ _).jumpTo _ _
  | jsr target => exact (start.pushWord _).jumpTo _ _
  | rts => exact start.pullWord.jumpTo _ _
  | branch f want b =>
    by_cases taken : s.flag f = want
    · rw [run, State.branch_taken taken]
      exact start.jumpTo _ _
    · rw [run, State.branch_not_taken taken]
      exact start.jumpTo _ _
  | flag f b => exact (start.setFlag _).retire _ _
  | nop => exact start.retire _ _
  | brk => exact start.takeException _ _ _
  | rti => exact (start.pull.setStatus _).pullWord.jumpTo _ _
  | illegal op => exact { start with fault := fun noFault => nomatch noFault }

/-! ### The tables of writers are the footprints of the forms -/

def Footprint.writesFlag (w : Footprint) (f : Flag) : Bool := w.status || w.flags.contains f

theorem writesA_eq (i : Instr) : writesA i = (formOf i).footprint.regs.contains .a := by cases i <;> rfl
theorem writesX_eq (i : Instr) : writesX i = (formOf i).footprint.regs.contains .x := by cases i <;> rfl
theorem writesY_eq (i : Instr) : writesY i = (formOf i).footprint.regs.contains .y := by cases i <;> rfl
theorem writesS_eq (i : Instr) : writesS i = (formOf i).footprint.regs.contains .s := by cases i <;> rfl

theorem writesI_eq (i : Instr) : writesI i = (formOf i).footprint.writesFlag .i := by cases i <;> rfl
theorem writesD_eq (i : Instr) : writesD i = (formOf i).footprint.writesFlag .d := by cases i <;> rfl
theorem writesV_eq (i : Instr) : writesV i = (formOf i).footprint.writesFlag .v := by cases i <;> rfl
theorem writesC_eq (i : Instr) : writesC i = (formOf i).footprint.writesFlag .c := by cases i <;> rfl
theorem writesZN_eq_z (i : Instr) : writesZN i = (formOf i).footprint.writesFlag .z := by cases i <;> rfl
theorem writesZN_eq_n (i : Instr) : writesZN i = (formOf i).footprint.writesFlag .n := by cases i <;> rfl

theorem writesMemory_eq (i : Instr) : writesMemory i = (formOf i).footprint.stores := by cases i <;> rfl
theorem not_isAssigned_eq (i : Instr) : (!i.isAssigned) = (formOf i).footprint.faults := by cases i <;> rfl

/-- PLP and RTI alone load the whole of P (R15). -/
theorem status_footprint {i : Instr} (hplp : i ≠ .plp) (hrti : i ≠ .rti) : (formOf i).footprint.status = false := by
  cases i
  case plp => exact absurd rfl hplp
  case rti => exact absurd rfl hrti
  all_goals rfl

/-! ### The obligations on all instructions -/

theorem Within.reg_kept {w : Footprint} {s t : State} (h : Within w s t) {q : Reg} (hq : w.regs.contains q = false) :
    t.reg q = s.reg q :=
  h.regs q (by simpa using hq)

theorem Within.flag_kept {w : Footprint} {s t : State} (h : Within w s t) {f : Flag} (hf : w.writesFlag f = false) :
    t.flag f = s.flag f := by
  simp only [Footprint.writesFlag, Bool.or_eq_false_iff, List.contains_eq_mem, decide_eq_false_iff_not] at hf
  obtain ⟨single, out⟩ := hf
  exact h.flags single f.pos f.pos_lt fun g hg same => out (Flag.pos_inj.mp same ▸ hg)

/-- The latches are in the footprint of the unassigned bytes alone. -/
theorem Within.latches {w : Footprint} {s t : State} (h : Within w s t) (hw : w.faults = false) : LatchesKept s t :=
  ⟨h.nmiPending, h.fault hw, h.irqIn, h.inputs⟩

/-- An executed instruction stays within the footprint of its form. -/
theorem within_of_exec {i : Instr} {s t : State} (h : exec i s = .next t) : Within (formOf i).footprint s t :=
  (exec_next_iff i s t).mp h ▸ (formOf i).within s

/-- Settles O54: the writers named are those whose form has the register in its footprint (`writesA_eq` and the
others). -/
theorem onlyNamedInstructionsWriteRegisters : Obligations.OnlyNamedInstructionsWriteRegisters := by
  intro i s t h
  have within := within_of_exec h
  rw [writesA_eq, writesX_eq, writesY_eq, writesS_eq]
  exact ⟨within.reg_kept, within.reg_kept, within.reg_kept, within.reg_kept⟩

/-- Settles O55: the writers named are those whose form has the flag in its footprint (`writesI_eq` and the others);
bits 5 and 4 are no flag's. -/
theorem onlyNamedInstructionsWriteFlags : Obligations.OnlyNamedInstructionsWriteFlags := by
  intro i s t h
  have within := within_of_exec h
  rw [writesI_eq, writesD_eq, writesV_eq, writesC_eq]
  refine ⟨within.flag_kept, within.flag_kept, within.flag_kept, within.flag_kept, fun unnamed => ⟨?_, ?_⟩,
    fun hplp hrti => ⟨?_, ?_⟩⟩
  · exact within.flag_kept (writesZN_eq_z i ▸ unnamed)
  · exact within.flag_kept (writesZN_eq_n i ▸ unnamed)
  · exact within.flags (status_footprint hplp hrti) _ (by decide) fun f _ => by cases f <;> decide
  · exact within.flags (status_footprint hplp hrti) _ (by decide) fun f _ => by cases f <;> decide

/-- Settles O56: the writers of memory are those whose form stores, and the fault latch is in the footprint of the
unassigned bytes alone (`writesMemory_eq`, `not_isAssigned_eq`). -/
theorem onlyNamedInstructionsWriteMemory : Obligations.OnlyNamedInstructionsWriteMemory := by
  intro i s t h
  have within := within_of_exec h
  refine ⟨fun unnamed => ?_, within.dev, within.nmiPending, within.irqIn, within.inputs, fun assigned => ?_⟩
  · exact memoryKept_of_mem (within.mem (writesMemory_eq i ▸ unnamed)) [] within.dev
  · exact within.fault (by rw [← not_isAssigned_eq, assigned]; rfl)

/-! ### A whole step -/

/-- The record of the bus at the start plays no part. -/
theorem Within.of_trace {w : Footprint} {s t : State} {l : List Event} (h : Within w { s with trace := l } t) :
    Within w s t :=
  ⟨h.regs, h.flags, h.form, h.mem, h.wf, h.fault, h.dev, h.nmiPending, h.irqIn, h.inputs⟩

/-- An interrupt entry has the footprint of BRK (R176). -/
theorem within_interruptEntry (vec : Word) (s : State) : Within Form.brk.footprint s (s.interruptEntry vec) :=
  (Within.refl _ s).takeException s.pc s.p vec

/-- Apart from the NMI latch, which an NMI entry clears, a step stays within a footprint from where the environment's
actions left the machine (R174). -/
theorem step_within {s t : State} (h : step s = .next t) :
    ∃ w, Within w { s.applyInputs with nmiPending := t.nmiPending } t := by
  have same {w : Footprint} {u : State} (within : Within w u t) : Within w { u with nmiPending := t.nmiPending } t := by
    rw [within.nmiPending]
    exact within
  obtain rfl | rfl | run := step_cases h
  · exact ⟨_, within_interruptEntry nmiVector { s.applyInputs with nmiPending := false }⟩
  · exact ⟨_, same (within_interruptEntry irqVector _)⟩
  · have within := within_of_exec run
    rw [fetch_st] at within
    exact ⟨_, same within.of_trace⟩

/-- The environment's actions keep what each single action keeps, whatever the script holds. -/
theorem applyInputs_keeps {P : State → Prop} (act : ∀ e s, P s → P (s.act e))
    (script : ∀ s later, P s → P { s with inputs := later }) {s : State} (h : P s) : P s.applyInputs := by
  unfold State.applyInputs
  split
  · exact h
  · exact actAll_keeps act _ (script s _ h)

/-- One action of the environment keeps the form of P: reset writes 0x24, no other action writes P (R15, R190). -/
theorem statusForm_act (e : EnvAction) (s : State) (h : StatusForm s.p) : StatusForm (s.act e).p := by
  cases e with
  | reset => exact (by unfold StatusForm; decide : StatusForm 0x24)
  | raiseNmi | setIrq | patchRam | outside => exact h

/-- Settles O11: the environment's actions keep the form (`statusForm_act`), and so does every footprint. -/
theorem stepKeepsStatusForm : Obligations.StepKeepsStatusForm := by
  intro s t hs h
  obtain ⟨w, within⟩ := step_within h
  exact within.form (applyInputs_keeps (P := fun s => StatusForm s.p) statusForm_act (fun _ _ h => h) hs)

/-- Settles O12: the environment's actions keep the form (`State.wf_act`), and so does every footprint. -/
theorem stepKeepsMemoryForm : Obligations.StepKeepsMemoryForm := by
  intro s t hs h
  obtain ⟨w, within⟩ := step_within h
  exact within.wf (applyInputs_keeps (P := fun s => s.mem.wf = true) (fun e s => s.wf_act e) (fun _ _ h => h) hs)

/-- Settles O13: the status byte is 0x24, and nothing of memory is listed. -/
theorem resetMeetsInvariant : Obligations.ResetMeetsInvariant :=
  ⟨(by unfold StatusForm; decide : StatusForm 0x24), Memory.wf_reset⟩

/-- Settles O10: without a reset the actions leave the latch (`actAll_fault`), which stops the step; a lone reset
clears it, so that there is a step (`step_of_no_fault`), which leaves the rest of the script (`step_within`). -/
theorem onlyResetClearsTheFaultLatch : Obligations.OnlyResetClearsTheFaultLatch := by
  intro s
  refine ⟨fun e latch noReset => (pollOrder s _ rfl).1 e ?_, fun later script => ?_⟩
  · cases script : s.inputs with
    | nil => rw [applyInputs_nil script, latch]
    | cons now later =>
      rw [State.applyInputs, script]
      exact (actAll_fault now _ (noReset now (by simp [script]))).trans latch
  · have landed : s.applyInputs = ({ s with inputs := later } : State).doReset := by
      rw [State.applyInputs, script]
      rfl
    obtain ⟨t, next⟩ := step_of_no_fault (s := s) (by rw [landed]; rfl)
    obtain ⟨w, within⟩ := step_within next
    exact ⟨landed, t, next, within.inputs.trans (by rw [landed]; rfl)⟩

end Sys2Proof.Machine
end

section
/-! Counts and transactions (spec/70_reset_and_hazards.md R200-R203, spec/30_encoding.md R52, R68, R69): the count
each form reports, the bus transactions it makes, and the obligations that bound both. -/

namespace Sys2Proof.Machine

/-! ### The count a form reports -/

/-- The fewest cycles that the form reports (R68, R133, R201); an unassigned byte reports none (R160). -/
def Form.base : Form → Nat
  | .load _ _ n | .store _ _ n | .transfer _ _ n | .adc _ n | .sbc _ n | .compare _ _ n | .and _ n | .ora _ n | .eor _ n
  | .bit _ n | .shiftAcc _ n | .shiftMem _ _ n | .incMem _ _ n | .incReg _ _ n => n
  | .txs | .flag _ _ | .nop | .branch _ _ _ => 2
  | .pha | .php | .jmp _ => 3
  | .pla | .plp => 4
  | .jmpInd _ => 5
  | .jsr _ | .rts | .rti => 6
  | .brk => 7
  | .illegal _ => 0

/-- The most cycles a form reports above the base: the penalty of an indexed read (R68), a taken branch to another
page (R133). -/
def Form.extra : Form → Nat
  | .load _ _ _ | .adc _ _ | .sbc _ _ | .compare _ _ _ | .and _ _ | .ora _ _ | .eor _ _ | .bit _ _ => 1
  | .branch _ _ _ => 2
  | _ => 0

theorem penalty_le_one (crossed : Bool) : penalty crossed ≤ 1 := by cases crossed <;> decide

/-- The state reports a count between the bounds, and told the environment so last (R200; log 40). -/
def ReportsBetween (lo hi : Nat) (t : State) : Prop :=
  ∃ n, t.cycles = some n ∧ t.trace.head? = some (.tick n) ∧ lo ≤ n ∧ n ≤ hi

theorem reportsBetween_fixed (t : State) (n : Nat) : ReportsBetween n n (t.report n) :=
  ⟨n, rfl, rfl, le_rfl, le_rfl⟩

theorem reportsBetween_penalty (t : State) (n : Nat) (crossed : Bool) :
    ReportsBetween n (n + 1) (t.report (n + penalty crossed)) :=
  ⟨_, rfl, rfl, Nat.le_add_right _ _, Nat.add_le_add_left (penalty_le_one crossed) n⟩

theorem reportsBetween_branch (f : Flag) (want : Bool) (b : Byte) (s : State) :
    ReportsBetween 2 4 (s.branch f want b) := by
  by_cases taken : s.flag f = want
  · rw [State.branch_taken taken]
    have := penalty_le_one (pageOf (relTarget (s.pc + 2) b) != pageOf (s.pc + 2))
    exact ⟨_, rfl, rfl, by omega, by omega⟩
  · rw [State.branch_not_taken taken]
    exact ⟨_, rfl, rfl, by decide, by decide⟩

/-- Every form but an unassigned byte ends by reporting its count. -/
theorem Form.run_reports (f : Form) (s : State) (h : f.footprint.faults = false) :
    ReportsBetween f.base (f.base + f.extra) (f.run s) := by
  cases f with
  | load r src n | compare r src n => exact reportsBetween_penalty _ n _
  | adc src n | sbc src n | and src n | ora src n | eor src n | bit src n => exact reportsBetween_penalty _ n _
  | branch f want b => exact reportsBetween_branch f want b s
  | illegal op => cases h
  | _ => exact reportsBetween_fixed _ _

/-- An unassigned byte reports no count (R160). -/
theorem Form.run_cycles_of_faults (f : Form) {s : State} (h : f.footprint.faults = true) : (f.run s).cycles = none := by
  cases f with
  | illegal op => rfl
  | _ => cases h

/-- The instructions whose counts lie in R201's range are the assigned ones. -/
theorem isAssigned_eq_range (i : Instr) :
    i.isAssigned = (decide (2 ≤ (formOf i).base) && decide ((formOf i).base + (formOf i).extra ≤ 7)) := by
  cases i <;> rfl

theorem faults_of_isAssigned {i : Instr} (h : i.isAssigned = true) : (formOf i).footprint.faults = false := by
  rw [← not_isAssigned_eq, h]
  rfl

/-- Settles O57: every assigned form reports a count (`Form.run_reports`), and the table of forms bounds it
(`isAssigned_eq_range`). -/
theorem cycleCountsAreTwoToSeven : Obligations.CycleCountsAreTwoToSeven := by
  intro i s t assigned h
  rw [exec_next_iff] at h
  subst h
  obtain ⟨n, count, told, low, high⟩ := (formOf i).run_reports s (faults_of_isAssigned assigned)
  rw [isAssigned_eq_range, Bool.and_eq_true, decide_eq_true_eq, decide_eq_true_eq] at assigned
  exact ⟨n, count, by omega, by omega, told⟩

/-! ### The transactions a form makes -/

/-- The reads of a format's pointer (R63, R64). -/
def Mode.accesses : Mode → Nat
  | .indx _ | .indy _ => 2
  | .zp _ | .zpx _ | .zpy _ | .abs _ | .absx _ | .absy _ => 0

/-- The reads of an operand (R55, R69). -/
def Source.accesses : Source → Nat
  | .imm _ => 0
  | .mem m => m.accesses + 1

/-- The transactions of each form behind its fetch (R69). -/
def Form.accesses : Form → Nat
  | .load _ src _ | .adc src _ | .sbc src _ | .compare _ src _ | .and src _ | .ora src _ | .eor src _ | .bit src _ =>
    src.accesses
  | .store _ m _ => m.accesses + 1
  | .shiftMem _ m _ | .incMem _ m _ => m.accesses + 2
  | .pha | .php | .pla | .plp => 1
  | .jmpInd _ | .jsr _ | .rts => 2
  | .rti => 3
  | .brk => 5
  | .transfer _ _ _ | .txs | .shiftAcc _ _ | .incReg _ _ _ | .jmp _ | .branch _ _ _ | .flag _ _ | .nop | .illegal _ => 0

@[simp] theorem transactions_locate (m : Mode) (s : State) :
    transactions (s.locate m).st.trace = transactions s.trace + m.accesses := by
  cases m <;> rfl

@[simp] theorem transactions_operand (src : Source) (s : State) :
    transactions (s.operand src).st.trace = transactions s.trace + src.accesses := by
  cases src with
  | imm b => rfl
  | mem m => simp [State.operand, Source.accesses, Nat.add_assoc]

@[simp] theorem transactions_takeException (ret : Word) (status : Byte) (vec : Word) (s : State) :
    transactions (s.takeException ret status vec).trace = transactions s.trace + 5 := rfl

theorem Form.run_transactions (f : Form) (s : State) :
    transactions (f.run s).trace = transactions s.trace + f.accesses := by
  cases f with
  | load r src n => simp [run, State.load, accesses]
  | store r m n => simp [run, State.store, accesses, Nat.add_assoc]
  | transfer src dst n => simp [run, State.transfer, accesses]
  | adc src n | sbc src n => simp [run, State.arith, accesses]
  | compare r src n => simp [run, State.compare, accesses]
  | and src n | ora src n | eor src n => simp [run, State.logic, accesses]
  | bit src n => simp [run, State.bitTest, accesses]
  | shiftMem op m n => simp [run, State.shiftMem, accesses, Nat.add_assoc]
  | incMem d m n => simp [run, State.incMem, accesses, Nat.add_assoc]
  | incReg d r n => simp [run, State.incReg, accesses]
  | branch f want b =>
    obtain ⟨⟨n, -, trace⟩, -⟩ := branch_frame f want b s
    simp [run, trace, accesses]
  | brk => simp [run, accesses]
  | _ => rfl

/-- The transactions of an assigned instruction, its fetch included, fit in its base count; an unassigned byte has no
count (R201). -/
theorem isAssigned_eq_fits (i : Instr) :
    i.isAssigned = decide (i.length + (formOf i).accesses ≤ (formOf i).base) := by
  cases i <;> rfl

theorem length_add_accesses_le_six (i : Instr) : i.length + (formOf i).accesses ≤ 6 := by
  have table : decide (i.length + (formOf i).accesses ≤ 6) = true := by cases i <;> rfl
  exact of_decide_eq_true table

theorem transactions_append (l l' : List Event) : transactions (l ++ l') = transactions l + transactions l' := by
  simp [transactions, busTrace]

theorem transactions_fetch (s : State) : transactions s.fetch.2.trace = transactions s.trace + s.fetch.1.length := by
  obtain ⟨reads, trace, length, bus⟩ := fetch_reads s
  have all : transactions reads = reads.length := congrArg List.length bus
  rw [trace, transactions_append, all, length, Nat.add_comm]

/-- Settles O58: an interrupt entry makes five transactions in seven cycles; an instruction makes one for each of its
bytes (`transactions_fetch`) and its form's (`Form.run_transactions`), which fit in the base count
(`isAssigned_eq_fits`). -/
theorem transactionsWithinCycles : Obligations.TransactionsWithinCycles := by
  intro s t n quiet h count
  have entry (vec : Word) (u : State) (hu : u.trace = s.trace) (ht : t = u.interruptEntry vec) :
      transactions t.trace ≤ transactions s.trace + n ∧ transactions t.trace ≤ transactions s.trace + 6 := by
    subst ht
    have seven : 7 = n := Option.some.inj count
    rw [State.interruptEntry, transactions_takeException, hu]
    omega
  have outcome := step_cases h
  rw [applyInputs_nil quiet] at outcome
  obtain rfl | rfl | run := outcome
  · exact entry nmiVector { s with nmiPending := false } rfl rfl
  · exact entry irqVector s rfl rfl
  · rw [exec_next_iff] at run
    subst run
    rw [Form.run_transactions, transactions_fetch]
    cases assigned : s.fetch.1.isAssigned with
    | false =>
      have faults : (formOf s.fetch.1).footprint.faults = true := by rw [← not_isAssigned_eq, assigned]; rfl
      rw [Form.run_cycles_of_faults _ faults] at count
      cases count
    | true =>
      obtain ⟨n', count', -, low, -⟩ := (formOf s.fetch.1).run_reports s.fetch.2 (faults_of_isAssigned assigned)
      have same : n' = n := Option.some.inj (count'.symm.trans count)
      rw [isAssigned_eq_fits, decide_eq_true_eq] at assigned
      have six := length_add_accesses_le_six s.fetch.1
      omega

end Sys2Proof.Machine
end

section
/-! Memory, the stack and the state after reset (spec/20_memory.md R33-R48, spec/10_state.md R13, R21): the byte a
read returns in RAM and outside it, and the obligations on both windows, on push and pull, and on reset. -/

namespace Sys2Proof.Machine

/-! ### RAM (R35) -/

theorem busKey_ram {a : Word} (h : a.toNat < 0x2000) : busKey a = a.toNat % 0x800 := if_pos h

/-- The index an action of the environment names is the key of every mirror of its byte (R35, R45). -/
theorem busKey_eq_setWidth {a : Word} (h : a.toNat < 0x2000) : busKey a = (a.setWidth 11).toNat := by
  rw [busKey_ram h, BitVec.toNat_setWidth]

/-- A write of RAM is seen at its mirrors and nowhere else in RAM. -/
theorem busByte_memWrite (s : State) {a b : Word} (v : Byte) (ha : inRam a = true) (hb : inRam b = true) :
    (s.memWrite a v).busByte b = if busKey a = busKey b then v else s.busByte b := by
  obtain ⟨mirror, other⟩ := (storedAt_memWrite s a v).1 ha
  split
  · next same => exact mirror b same.symm
  · next differ => exact (other b (by simpa using Ne.symm differ)).2 hb

/-- A byte of RAM that is not listed reads as `ram_init`'s (log 35). -/
theorem busByte_unlisted {s : State} {a : Word} (ha : inRam a = true) (h : s.cell a = none) :
    s.busByte a = Config.ramInit (busKey a) := by
  simp [State.busByte, h, ha]

/-- Settles O16: reads and writes of RAM go by the key of the address (`busByte_memWrite`, `busByte_unlisted`), which
is its index, and the environment's answers do not see them (`busByte_memRead_ram`, `busByte_memWrite_ram`). -/
theorem ramReadAfterWrite : Obligations.RamReadAfterWrite := by
  intro s a b v ha hb
  have ramA : inRam a = true := (inRam_iff a).mpr ha
  have ramB : inRam b = true := (inRam_iff b).mpr hb
  refine ⟨?_, fun unlisted => ?_, rfl, fun d => ⟨busByte_memRead_ram ramA d, fun hd => ?_⟩, rfl, rfl, ?_, ?_⟩
  · rw [busByte_memWrite s v ramA ramB, busKey_ram ha, busKey_ram hb]
  · rw [busByte_unlisted ramB unlisted, busKey_ram hb]
  · exact busByte_memWrite_ram v ramA (by rw [← Bool.not_eq_true, inRam_iff]; omega)
  · refine busByte_ram ramB ?_
    rw [State.memWrite_mem, if_pos ramA, busKey_eq_setWidth ha]
    rfl
  · exact busByte_ram ramB rfl

/-! ### Outside RAM (R37-R42) -/

/-- Settles O17: outside RAM what is known of a byte is `Dev.known` (`cell_dev`), which for `FlatROM` leaves nothing
to the history. -/
theorem deviceAccessIsTheEnvironments : Obligations.DeviceAccessIsTheEnvironments := by
  intro s a v ha
  have outside {d : Word} (hd : 0x2000 ≤ d.toNat) : inRam d = false := by
    rw [← Bool.not_eq_true, inRam_iff]
    omega
  have flat {t : State} {rom : List Host.Cell} (ht : t.dev = .flatRom rom) {d : Word} (hd : 0x2000 ≤ d.toNat) :
      t.busByte d = if d.toNat < 0x8000 then 0x00 else romByte rom d :=
    busByte_of_cell (by rw [cell_dev (outside hd), ht, Dev.known])
  refine ⟨?_, rfl, fun free => ?_, fun rom hrom => ⟨flat hrom ha, fun d hd => ?_⟩⟩
  · simp [State.memWrite, State.note, outside ha]
  · simp [State.busByte, cell_dev (outside ha), free, Dev.known, outside ha]
  · rw [flat hrom hd, flat (t := s.memWrite a v) hrom hd]

/-! ### The stack (R13) -/

/-- Settles O18: a push is one write at the slot S names, a pull one read at the next slot. -/
theorem pushAndPull : Obligations.PushAndPull := by
  intro s v
  have lower : (s.sp - 1).toNat = (s.sp.toNat + 255) % 256 := by
    rw [BitVec.toNat_sub, Nat.add_comm]
    rfl
  exact ⟨stackAddr_toNat s.sp, lower, storedAt_of_mem rfl, rfl, BitVec.toNat_add _ _, rfl, rfl,
    memoryKept_of_mem (s := s) (t := s.pull.2) rfl []⟩

/-! ### Reset (R21, R190, R194) -/

/-- Reset reads nothing of the machine but RAM's list, the environment, the record, the level and the script: with
those as `State.reset` assumes them, it leaves `State.reset`. -/
theorem doReset_eq_reset (s : State) (hmem : s.mem = []) (hdev : s.dev = .free) (htrace : s.trace = [])
    (hirq : s.irqIn = false) (hinputs : s.inputs = []) : s.doReset = State.reset := by
  obtain ⟨a, x, y, sp, pc, p, nmiPending, fault, irqIn, cycles, mem, dev, trace, inputs⟩ := s
  subst hmem hdev htrace hirq hinputs
  rfl

/-- Settles O15: the fields are assigned by `State.reset`; it is ready to fetch, for I is set. -/
theorem resetState : Obligations.ResetState :=
  ⟨rfl, rfl, rfl, rfl, rfl, rfl, rfl, rfl, doReset_eq_reset, step_ready ⟨rfl, rfl, rfl, fun _ => rfl⟩⟩

end Sys2Proof.Machine
end

section
/-! Instructions that write memory (spec/40_load_store.md R83-R85, spec/43_logic_shift.md R114-R118, spec/44_incdec.md
R120, R121): the classes "write" and "read-modify-write" of R69, and the obligations on the stores, the shifts and
rotates, INC and DEC. -/

namespace Sys2Proof.Machine

/-! ### Stores -/

/-- A write at the effective address, when it retires, is a store there: what came before left memory alone (R69). -/
theorem storedAt_retire {s u : State} {ea : Word} {v : Byte} (hm : u.mem = s.mem) (hd : u.dev = s.dev) (l n : Nat) :
    StoredAt ea v s ((u.memWrite ea v).retire l n) :=
  storedAt_of_mem (by rw [State.retire_mem, State.memWrite_mem, hm]) hd

/-- A row of the store table stores its register, with its base count, and is encoded as the table says. -/
theorem storeRow_form {r : Reg} {m : Mode} {row : Row} (h : storeRow r m = some row) :
    formOf row.instr = .store r m row.base ∧ row.Encoded m.length := by
  cases r <;> simp only [storeRow] at h
  case a => unfold staRow at h; split at h <;> cases h <;> exact ⟨rfl, rfl, rfl⟩
  case x => unfold stxRow at h; split at h <;> cases h <;> exact ⟨rfl, rfl, rfl⟩
  case y => unfold styRow at h; split at h <;> cases h <;> exact ⟨rfl, rfl, rfl⟩
  case s => cases h

theorem State.store_eq (r : Reg) (m : Mode) (n : Nat) (s : State) :
    s.store r m n = ((s.locate m).st.memWrite (s.locate m).ea (s.reg r)).retire m.length n := by
  simp [State.store]

/-- What STA, STX and STY do (R83-R85). -/
theorem store_effect (r : Reg) (m : Mode) (n : Nat) (s : State) :
    let t := s.store r m n
    StoredAt (s.locate m).ea (s.reg r) s t ∧ RegsKeptExcept [] s t ∧ t.p = s.p ∧ LatchesKept s t ∧
      t.pc.toNat = (s.pc.toNat + m.length) % 65536 ∧ t.cycles = some n ∧
      t.trace = .tick n :: .write (s.locate m).ea (s.reg r) :: (s.locate m).st.trace := by
  intro t
  have within : Within (Form.store r m n).footprint s t := Form.within (.store r m n) s
  refine ⟨?_, within.regs, ?_, within.latches rfl, ?_, ?_, ?_⟩ <;>
    simp only [t, State.store_eq]
  · exact storedAt_retire (s.locate_mem m) (s.locate_dev m) _ _
  · exact s.locate_p m
  · rw [State.retire_pc_toNat, State.memWrite_pc, State.locate_pc]
  · rfl
  · rfl

/-- Settles O25: every row of the store table is one `State.store` (`storeRow_form`, `store_effect`). -/
theorem storesWriteRegisterToMemory : Obligations.StoresWriteRegisterToMemory := by
  intro r m row s h
  obtain ⟨form, enc⟩ := storeRow_form h
  exact ⟨s.store r m row.base, by rw [exec_eq, form, Form.run], enc, store_effect r m row.base s⟩

/-- Settles O19: the store leaves the machine ready to fetch, with the register's byte where PC then points
(`store_effect`), so the fetch is that one read (`fetch_of_entry_one`). -/
theorem storeIsSeenByNextFetch : Obligations.StoreIsSeenByNextFetch := by
  intro r m row s t i h ready ram next cell run
  obtain ⟨u, run', -, stored, -, p, ⟨nmi, fault, irq, inputs⟩, pc, -⟩ := storesWriteRegisterToMemory r m row s h
  obtain rfl : u = t := Host.Outcome.next.inj (run'.symm.trans run)
  have behind : u.pc = s.pc + BitVec.ofNat 16 m.length :=
    BitVec.eq_of_toNat_eq (by rw [pc, BitVec.toNat_add, BitVec.toNat_ofNat, Nat.add_mod_mod])
  have opcode : u.busByte u.pc = s.reg r := (stored.1 ram).1 u.pc (behind ▸ next)
  obtain ⟨quiet, unlatched, noNmi, masked⟩ := ready
  have ready' : u.ReadyToFetch := by
    rw [State.ReadyToFetch, inputs, fault, nmi, irq, State.flag_eq, p]
    exact ⟨quiet, unlatched, noNmi, masked⟩
  rw [step_ready ready', fetch_of_entry_one (by rw [opcode, cell])]
  rfl

/-! ### Shifting one byte (R114) -/

theorem bitByte_toNat (b : Bool) : (bitByte b).toNat = b.toNat := by cases b <;> rfl

/-- The bit entering on the right fills the position a left shift left empty. -/
theorem rotateLeft_toNat (v : Byte) (c : Bool) :
    ((v <<< 1) ||| bitByte c).toNat = (2 * v.toNat + c.toNat) % 256 := by
  have := v.isLt
  have bit := c.toNat_lt
  have high : (v <<< 1).toNat = (v.toNat % 128) <<< 1 := by
    rw [BitVec.toNat_shiftLeft, Nat.shiftLeft_eq, Nat.shiftLeft_eq]
    omega
  rw [BitVec.toNat_or, high, bitByte_toNat, ← Nat.shiftLeft_add_eq_or_of_lt (by omega), Nat.shiftLeft_eq]
  omega

/-- The bit entering on the left fills the position a right shift left empty. -/
theorem rotateRight_toNat (v : Byte) (c : Bool) :
    ((v >>> 1) ||| (bitByte c <<< 7)).toNat = v.toNat / 2 + 128 * c.toNat := by
  have := v.isLt
  have low : (v >>> 1).toNat = v.toNat / 2 := by
    rw [BitVec.toNat_ushiftRight, Nat.shiftRight_eq_div_pow]
  have high : (bitByte c <<< 7).toNat = c.toNat <<< 7 := by cases c <;> rfl
  rw [BitVec.toNat_or, low, high, Nat.or_comm, ← Nat.shiftLeft_add_eq_or_of_lt (by omega), Nat.shiftLeft_eq]
  omega

/-- The operation of R114 is the rule's, as numbers. -/
theorem shiftedByOne (op : ShiftOp) (v : Byte) (c : Bool) : ShiftedByOne op v (op.result v c) c (op.carry v) := by
  cases op with
  | asl => exact ⟨by rw [ShiftOp.result, BitVec.toNat_shiftLeft, Nat.shiftLeft_eq, Nat.mul_comm], rfl⟩
  | lsr => exact ⟨by rw [ShiftOp.result, BitVec.toNat_ushiftRight, Nat.shiftRight_eq_div_pow], rfl⟩
  | rol => exact ⟨rotateLeft_toNat v c, rfl⟩
  | ror => exact ⟨rotateRight_toNat v c, rfl⟩

/-! ### Access class "read-modify-write" (R69) -/

/-- One read and one write at the effective address, with nothing but P changed between them. -/
theorem modify_effect {m : Mode} {s u : State} (r : Byte) (n : Nat)
    (hu : u = { ((s.locate m).st.memRead (s.locate m).ea).2 with p := u.p }) :
    let ea := (s.locate m).ea
    let t := (u.memWrite ea r).retire m.length n
    StoredAt ea r s t ∧ t.pc.toNat = (s.pc.toNat + m.length) % 65536 ∧ t.cycles = some n ∧
      t.trace = .tick n :: .write ea r :: .read ea ((s.locate m).st.busByte ea) :: (s.locate m).st.trace := by
  intro ea t
  have field {α : Type} (f : State → α) : f u = f { ((s.locate m).st.memRead ea).2 with p := u.p } := congrArg f hu
  refine ⟨storedAt_retire ((field State.mem).trans (s.locate_mem m)) ((field State.dev).trans (s.locate_dev m)) _ _, ?_,
    rfl, ?_⟩
  · rw [State.retire_pc_toNat, State.memWrite_pc, field State.pc]
    exact congrArg (fun pc : Word => (pc.toNat + m.length) % 65536) (s.locate_pc m)
  · rw [State.retire_trace, State.memWrite_trace, field State.trace]
    rfl

/-! ### Shifts and rotates -/

theorem State.shiftAcc_p (op : ShiftOp) (n : Nat) (s : State) :
    (s.shiftAcc op n).p = putZN (op.result s.a (s.flag .c)) (putFlag .c (op.carry s.a) s.p) := by
  simp [State.shiftAcc]

theorem State.shiftAcc_a (op : ShiftOp) (n : Nat) (s : State) :
    (s.shiftAcc op n).a = op.result s.a (s.flag .c) := rfl

theorem State.shiftAcc_c (op : ShiftOp) (n : Nat) (s : State) : (s.shiftAcc op n).flag .c = op.carry s.a := by
  simp [State.flag_eq, State.shiftAcc_p]

theorem shiftAccRow_form (op : ShiftOp) :
    formOf (shiftAccRow op).instr = .shiftAcc op 2 ∧ (shiftAccRow op).Encoded 1 := by
  cases op <;> exact ⟨rfl, rfl, rfl⟩

theorem shiftAcc_effect (op : ShiftOp) (n : Nat) (s : State) :
    let t := s.shiftAcc op n
    ShiftedByOne op s.a t.a (s.flag .c) (t.flag .c) ∧ ZNOf t.a t ∧ FlagsKeptExcept [.n, .z, .c] s t ∧
      RegsKeptExcept [.a] s t ∧ MemoryKeptExcept [] s t ∧ LatchesKept s t ∧ Retired 1 n [] s t := by
  intro t
  have within : Within (Form.shiftAcc op n).footprint s t := Form.within (.shiftAcc op n) s
  refine ⟨?_, znOf_of_p (s.shiftAcc_p op n), within.flags rfl, within.regs,
    memoryKept_of_mem (within.mem rfl) [] within.dev, within.latches rfl, retired_retire 1 n rfl rfl⟩
  rw [State.shiftAcc_a, State.shiftAcc_c]
  exact shiftedByOne op s.a (s.flag .c)

theorem shiftRow_form {op : ShiftOp} {m : Mode} {row : Row} (h : shiftRow op m = some row) :
    formOf row.instr = .shiftMem op m row.base ∧ row.Encoded m.length := by
  cases op <;> simp only [shiftRow] at h
  case asl => unfold aslRow at h; split at h <;> cases h <;> exact ⟨rfl, rfl, rfl⟩
  case lsr => unfold lsrRow at h; split at h <;> cases h <;> exact ⟨rfl, rfl, rfl⟩
  case rol => unfold rolRow at h; split at h <;> cases h <;> exact ⟨rfl, rfl, rfl⟩
  case ror => unfold rorRow at h; split at h <;> cases h <;> exact ⟨rfl, rfl, rfl⟩

theorem State.shiftMem_p (op : ShiftOp) (m : Mode) (n : Nat) (s : State) :
    let v := (s.locate m).st.busByte (s.locate m).ea
    (s.shiftMem op m n).p = putZN (op.result v (s.flag .c)) (putFlag .c (op.carry v) s.p) := by
  simp [State.shiftMem, State.flag_eq]

theorem shiftMem_effect (op : ShiftOp) (m : Mode) (n : Nat) (s : State) :
    let ea := (s.locate m).ea
    let v := (s.locate m).st.busByte ea
    let r := op.result v (s.flag .c)
    let t := s.shiftMem op m n
    ShiftedByOne op v r (s.flag .c) (t.flag .c) ∧ StoredAt ea r s t ∧ ZNOf r t ∧ FlagsKeptExcept [.n, .z, .c] s t ∧
      RegsKeptExcept [] s t ∧ LatchesKept s t ∧ t.pc.toNat = (s.pc.toNat + m.length) % 65536 ∧ t.cycles = some n ∧
      t.trace = .tick n :: .write ea r :: .read ea v :: (s.locate m).st.trace := by
  intro ea v r t
  have within : Within (Form.shiftMem op m n).footprint s t := Form.within (.shiftMem op m n) s
  have p : t.p = putZN r (putFlag .c (op.carry v) s.p) := s.shiftMem_p op m n
  have carry : t.flag .c = op.carry v := by simp [State.flag_eq, p]
  have form : t =
      (((((s.locate m).st.memRead ea).2.setFlag .c (op.carry v)).setZN r).memWrite ea r).retire m.length n := by
    simp [t, r, v, ea, State.shiftMem, State.flag_eq]
  obtain ⟨stored, pc, cycles, trace⟩ := modify_effect (m := m) (s := s)
    (u := (((s.locate m).st.memRead ea).2.setFlag .c (op.carry v)).setZN r) r n rfl
  rw [← form] at stored pc cycles trace
  exact ⟨carry ▸ shiftedByOne op v (s.flag .c), stored, znOf_of_p p, within.flags rfl, within.regs, within.latches rfl,
    pc, cycles, trace⟩

/-- Settles O36: the rows are `State.shiftAcc` and `State.shiftMem` (`shiftAccRow_form`, `shiftRow_form`) of the
operation, which is the rule's (`shiftedByOne`). -/
theorem shiftsMoveOneBit : Obligations.ShiftsMoveOneBit := by
  intro op s
  obtain ⟨form, enc⟩ := shiftAccRow_form op
  refine ⟨⟨s.shiftAcc op 2, by rw [exec_eq, form, Form.run], enc, shiftAcc_effect op 2 s⟩, fun m row h => ?_⟩
  obtain ⟨form, enc⟩ := shiftRow_form h
  exact ⟨s.shiftMem op m row.base, _, by rw [exec_eq, form, Form.run], enc, shiftMem_effect op m row.base s⟩

/-! ### INC and DEC -/

theorem incMemRow_form {up : Bool} {m : Mode} {row : Row} (h : (if up then incRow m else decRow m) = some row) :
    formOf row.instr = .incMem (stepDelta up) m row.base ∧ row.Encoded m.length := by
  cases up <;> simp only [if_true, Bool.false_eq_true, if_false] at h
  case true => unfold incRow at h; split at h <;> cases h <;> exact ⟨rfl, rfl, rfl⟩
  case false => unfold decRow at h; split at h <;> cases h <;> exact ⟨rfl, rfl, rfl⟩

theorem State.incMem_p (d : Byte) (m : Mode) (n : Nat) (s : State) :
    (s.incMem d m n).p = putZN ((s.locate m).st.busByte (s.locate m).ea + d) s.p := by
  simp [State.incMem]

/-- Settles O38: the rows are `State.incMem` (`incMemRow_form`), one read and a write of the sum (`modify_effect`). -/
theorem incDecOfMemory : Obligations.IncDecOfMemory := by
  intro up m row s h ea v
  obtain ⟨form, enc⟩ := incMemRow_form h
  have within := Form.within (.incMem (stepDelta up) m row.base) s
  obtain ⟨stored, rest⟩ := modify_effect (m := m) (s := s)
    (u := ((s.locate m).st.memRead ea).2.setZN (v + stepDelta up)) (v + stepDelta up) row.base rfl
  refine ⟨s.incMem (stepDelta up) m row.base, v + stepDelta up, by rw [exec_eq, form, Form.run], enc, ?_, stored,
    znOf_of_p (s.incMem_p ..), within.flags rfl, within.regs, within.latches rfl, rest⟩
  rw [BitVec.toNat_add, stepDelta_toNat]

end Sys2Proof.Machine
end

section
/-! Sequences that restore (spec/41_transfer_stack.md R96-R99, spec/42_arithmetic.md R100, spec/43_logic_shift.md
R117, R118, spec/45_control.md R131, R132, spec/60_exceptions.md R180, R181): what a pull finds after a push, nine
bits rotated nine times, and the adder. -/

namespace Sys2Proof.Machine

/-! ### The adder (R100) -/

/-- Settles O30: the sum is exact by `add8_r_toNat` and `add8_cout`; the rest is `add8_v_iff`, `sub8_r`, `sub8_cout`
and `sub8_v_iff`. -/
theorem adderIsExact : Obligations.AdderIsExact := by
  intro a m c
  refine ⟨?_, add8_v_iff a m c, sub8_r a m c, ?_, sub8_v_iff a m c⟩
  · have := a.isLt
    have := m.isLt
    have := c.toNat_le
    rw [add8_r_toNat, add8_cout]
    by_cases carry : 256 ≤ a.toNat + m.toNat + c.toNat <;> simp [carry] <;> omega
  · rw [sub8_cout, decide_eq_true_eq]

/-! ### A rotation of nine bits (R117, R118) -/

/-- The nine bits a rotate moves: the eight of A, and C as bit 8. -/
def State.nineBits (s : State) (k : Nat) : Bool := if k = 8 then s.flag .c else s.a.getLsbD k

theorem getElem_bitByte (b : Bool) {k : Nat} (hk : k < 8) : (bitByte b)[k] = (decide (k = 0) && b) := by
  rw [← BitVec.getLsbD_eq_getElem, getLsbD_bitByte]

theorem nineBits_rol (n : Nat) (s : State) {k : Nat} (hk : k < 9) :
    (s.shiftAcc .rol n).nineBits k = s.nineBits ((k + 8) % 9) := by
  simp only [State.nineBits, State.shiftAcc_a, State.shiftAcc_c, ShiftOp.result, ShiftOp.carry]
  interval_cases k <;> simp [getElem_bitByte]

theorem nineBits_ror (n : Nat) (s : State) {k : Nat} (hk : k < 9) :
    (s.shiftAcc .ror n).nineBits k = s.nineBits ((k + 1) % 9) := by
  simp only [State.nineBits, State.shiftAcc_a, State.shiftAcc_c, ShiftOp.result, ShiftOp.carry]
  interval_cases k <;> simp [getElem_bitByte]

/-- A step that rotates the nine bits by `d` places rotates them by `n * d` places in `n` steps. -/
theorem nineBits_iterate {step : State → State} {d : Nat}
    (rotates : ∀ s k, k < 9 → (step s).nineBits k = s.nineBits ((k + d) % 9)) (n : Nat) (s : State) {k : Nat}
    (hk : k < 9) : (step^[n] s).nineBits k = s.nineBits ((k + n * d) % 9) := by
  induction n generalizing s with
  | zero => rw [Function.iterate_zero, id, Nat.zero_mul, Nat.add_zero, Nat.mod_eq_of_lt hk]
  | succ n ih =>
    rw [Function.iterate_succ_apply, ih, rotates _ _ (Nat.mod_lt _ (by decide)), Nat.mod_add_mod, Nat.succ_mul,
      Nat.add_assoc]

/-- Nine rotations of nine bits, by whatever number of places, restore A and C. -/
theorem nine_rotations_restore {step : State → State} {d : Nat}
    (rotates : ∀ s k, k < 9 → (step s).nineBits k = s.nineBits ((k + d) % 9)) (s : State) :
    (step^[9] s).a = s.a ∧ (step^[9] s).flag .c = s.flag .c := by
  have restored {k : Nat} (hk : k < 9) : (step^[9] s).nineBits k = s.nineBits k := by
    rw [nineBits_iterate rotates 9 s hk, Nat.add_mul_mod_self_left, Nat.mod_eq_of_lt hk]
  refine ⟨byte_eq_of_bits fun k hk => ?_, restored (k := 8) (by decide)⟩
  have bit := restored (k := k) (by omega)
  rwa [State.nineBits, State.nineBits, if_neg (by omega), if_neg (by omega)] at bit

/-- Executing one instruction again and again iterates its form. -/
theorem execTimes_iterate (i : Instr) (n : Nat) (s : State) : ExecTimes i n s ((formOf i).run^[n] s) := by
  induction n generalizing s with
  | zero => rfl
  | succ n ih => exact ⟨_, exec_eq i s, ih _⟩

/-- Settles O37: ROL moves the nine bits by eight places, ROR by one (`nineBits_rol`, `nineBits_ror`), and nine such
moves restore them (`nine_rotations_restore`). -/
theorem nineRotatesRestore : Obligations.NineRotatesRestore := fun s =>
  ⟨⟨_, execTimes_iterate .rolAcc 9 s, nine_rotations_restore (fun u _ hk => nineBits_rol 2 u hk) s⟩,
    ⟨_, execTimes_iterate .rorAcc 9 s, nine_rotations_restore (fun u _ hk => nineBits_ror 2 u hk) s⟩⟩

/-! ### Push, then pull (R96-R99) -/

/-- A push that retires, then the next instruction's pull: the byte comes back, and S is as it was (R13). -/
theorem pull_after_push (s : State) (v : Byte) (l n : Nat) :
    let t := (s.push v).retire l n
    t.pull.1 = v ∧ t.pull.2.sp = s.sp := by
  intro t
  have slot : t.sp + 1 = s.sp := BitVec.sub_add_cancel s.sp 1
  have kept : t.busByte (stackAddr s.sp) = (s.push v).busByte (stackAddr s.sp) :=
    busByte_stack (s := s.push v) (t := t) rfl s.sp
  refine ⟨?_, slot⟩
  rw [State.pull_fst, slot, kept, State.busByte_push, if_pos rfl]

/-- Settles O29: the pull after the push finds the byte and S (`pull_after_push`); P in its stored form survives the
break bit (`fromPulled_withBreak`). -/
theorem pushThenPullRestores : Obligations.PushThenPullRestores := by
  intro s
  constructor
  · obtain ⟨byte, sp⟩ := pull_after_push s s.a 1 3
    refine ⟨_, _, exec_eq .pha s, exec_eq .pla _, byte, sp, ?_⟩
    exact znOf_of_p (congrArg (fun v => putZN v s.p) byte)
  · intro stored
    obtain ⟨byte, sp⟩ := pull_after_push s (statusWithBreak s.p) 1 3
    refine ⟨_, _, exec_eq .php s, exec_eq .plp _, ?_, sp⟩
    exact (congrArg statusFromPulled byte).trans (fromPulled_withBreak stored)

/-! ### Call, then return (R131, R132) -/

/-- The word that a push and a transfer left on the stack comes back, and S is as it was. -/
theorem pullWord_after_pushWord (s : State) (ret w : Word) (n : Nat) :
    let t := (s.pushWord ret).jumpTo w n
    t.pullWord.1 = ret ∧ t.pullWord.2.sp = s.sp := by
  intro t
  have lower : t.sp + 1 = s.sp - 1 := by rw [State.jumpTo_sp, State.pushWord_sp]; bv_omega
  have upper : t.sp + 2 = s.sp := by rw [State.jumpTo_sp, State.pushWord_sp]; bv_omega
  have apart : s.sp ≠ s.sp - 1 := by bv_omega
  rw [State.pullWord_eq, lower, upper, State.busByte_jumpTo_stack, State.busByte_jumpTo_stack, State.busByte_pushWord,
    State.busByte_pushWord, if_neg apart, if_pos rfl, if_pos rfl, mkWord_hi_lo]
  exact ⟨rfl, rfl⟩

/-- Settles O43: RTS pulls what JSR pushed (`pullWord_after_pushWord`), the address of the JSR's last byte, and both
keep the registers but S, and P. -/
theorem callThenReturn : Obligations.CallThenReturn := by
  intro w s
  obtain ⟨ret, sp⟩ := pullWord_after_pushWord s (s.pc + 2) w 6
  obtain ⟨regs, p, -⟩ := pushWord_jumpTo_frame s (s.pc + 2) w 6
  refine ⟨(s.pushWord (s.pc + 2)).jumpTo w 6, _, exec_eq (.jsr w) s, exec_eq .rts _, ?_⟩
  generalize (s.pushWord (s.pc + 2)).jumpTo w 6 = t at *
  have returned : (formOf .rts).run t = t.pullWord.2.jumpTo (s.pc + 2 + 1) 6 := by rw [← ret]; rfl
  obtain ⟨a, x, y, -⟩ := regsKept_iff.mp regs
  rw [returned]
  have kept : RegsKeptExcept [] s (t.pullWord.2.jumpTo (s.pc + 2 + 1) 6) :=
    regsKept_iff.mpr ⟨fun _ => a (by simp), fun _ => x (by simp), fun _ => y (by simp), fun _ => sp⟩
  exact ⟨BitVec.add_assoc s.pc 2 1, sp, kept, p⟩

/-! ### Entry, then return (R180, R181) -/

/-- RTI after an exception (R159, R176): PC is the return address, P what PLP would make of the pushed byte, S and the
other registers are as they were. -/
theorem rti_after_exception (s : State) (ret : Word) (status : Byte) (vec : Word) (n : Nat) :
    let t := (s.takeException ret status vec).returnFromException n
    t.pc = ret ∧ t.p = statusFromPulled status ∧ RegsKeptExcept [] s t := by
  intro t
  obtain ⟨high, low, pushed⟩ := takeException_slots ret status vec s
  have slot1 : (s.takeException ret status vec).sp + 1 = s.sp - 2 := by rw [State.takeException_sp]; bv_omega
  have slot2 : (s.takeException ret status vec).sp + 2 = s.sp - 1 := by rw [State.takeException_sp]; bv_omega
  have slot3 : (s.takeException ret status vec).sp + 3 = s.sp := by rw [State.takeException_sp]; bv_omega
  obtain ⟨a, x, y, -⟩ := regsKept_iff.mp (takeException_frame ret status vec s).1
  simp only [t, State.returnFromException_eq, slot1, slot2, slot3, high, low, pushed, mkWord_hi_lo, true_and]
  exact regsKept_iff.mpr ⟨fun _ => a (by simp), fun _ => x (by simp), fun _ => y (by simp), fun _ => rfl⟩

/-- Settles O53: RTI undoes an exception (`rti_after_exception`); P in its stored form survives the stack, with the
break bit and without (`fromPulled_withBreak`, `fromPulled_self`). -/
theorem rtiResumesAfterEntry : Obligations.RtiResumesAfterEntry := by
  intro s vec stored
  constructor
  · obtain ⟨pc, p, regs⟩ := rti_after_exception s s.pc s.p vec 6
    exact ⟨_, exec_eq .rti _, pc, p.trans (fromPulled_self stored), regs⟩
  · obtain ⟨pc, p, regs⟩ := rti_after_exception s (s.pc + 2) (statusWithBreak s.p) irqVector 6
    exact ⟨_, _, exec_eq .brk s, exec_eq .rti _, pc, p.trans (fromPulled_withBreak stored), regs⟩

end Sys2Proof.Machine
end

section
/-! What a step does not see (spec/20_memory.md R35, R36, R48, spec/70_reset_and_hazards.md R200): two machines that
differ in the count on output, and in the record of the bus by nothing the environment takes part in, make the same
step. -/

namespace Sys2Proof.Machine

/-! ### Machines that agree -/

/-- A relation between records that no step can tell apart: records stay related when the same event is added to both,
and related records have the same part that the environment has seen. -/
structure Unseen (R : List Event → List Event → Prop) : Prop where
  cons : ∀ {l l'} e, R l l' → R (e :: l) (e :: l')
  history : ∀ {l l'}, R l l' → l'.filter isDevEvent = l.filter isDevEvent

/-- The machines agree but for the record of the bus, and the records are related. -/
def Agree (R : List Event → List Event → Prop) (s s' : State) : Prop :=
  ∃ l, R s.trace l ∧ s' = { s with trace := l }

/-- The machines agree but for the record and the count on output. -/
def AgreeButCount (R : List Event → List Event → Prop) (s s' : State) : Prop :=
  ∃ l c, R s.trace l ∧ s' = { s with trace := l, cycles := c }

namespace AgreeButCount

variable {R : List Event → List Event → Prop} {s s' : State}

theorem reg (h : AgreeButCount R s s') (r : Reg) : s'.reg r = s.reg r := by
  obtain ⟨l, c, -, rfl⟩ := h
  cases r <;> rfl

theorem a (h : AgreeButCount R s s') : s'.a = s.a := h.reg .a
theorem x (h : AgreeButCount R s s') : s'.x = s.x := h.reg .x
theorem y (h : AgreeButCount R s s') : s'.y = s.y := h.reg .y

theorem pc (h : AgreeButCount R s s') : s'.pc = s.pc := by
  obtain ⟨l, c, -, rfl⟩ := h
  rfl

theorem p (h : AgreeButCount R s s') : s'.p = s.p := by
  obtain ⟨l, c, -, rfl⟩ := h
  rfl

theorem flag (h : AgreeButCount R s s') (f : Flag) : s'.flag f = s.flag f := congrArg (getFlag f) h.p

theorem poll (h : AgreeButCount R s s') : s'.poll = s.poll := by
  obtain ⟨l, c, -, rfl⟩ := h
  rfl

/-! Writes that look at neither record nor count. -/

theorem setReg (h : AgreeButCount R s s') (r : Reg) (v : Byte) : AgreeButCount R (s.setReg r v) (s'.setReg r v) := by
  obtain ⟨l, c, hr, rfl⟩ := h
  cases r <;> exact ⟨l, c, hr, rfl⟩

theorem setFlag (h : AgreeButCount R s s') (f : Flag) (b : Bool) :
    AgreeButCount R (s.setFlag f b) (s'.setFlag f b) := by
  obtain ⟨l, c, hr, rfl⟩ := h
  exact ⟨l, c, hr, rfl⟩

theorem setZN (h : AgreeButCount R s s') (v : Byte) : AgreeButCount R (s.setZN v) (s'.setZN v) :=
  (h.setFlag .z (v == 0)).setFlag .n (v.getLsbD 7)

theorem setStatus (h : AgreeButCount R s s') (m : Byte) : AgreeButCount R (s.setStatus m) (s'.setStatus m) := by
  obtain ⟨l, c, hr, rfl⟩ := h
  exact ⟨l, c, hr, rfl⟩

theorem raiseDecodeError (h : AgreeButCount R s s') (op : Byte) :
    Agree R (s.raiseDecodeError op) (s'.raiseDecodeError op) := by
  obtain ⟨l, c, hr, rfl⟩ := h
  exact ⟨l, hr, rfl⟩

/-! The bus. -/

variable (unseen : Unseen R)
include unseen

theorem busByte (h : AgreeButCount R s s') (a : Word) : s'.busByte a = s.busByte a := by
  obtain ⟨l, c, hr, rfl⟩ := h
  exact busByte_congr (s := s) (t := { s with trace := l, cycles := c }) rfl rfl (unseen.history hr) a

theorem note (h : AgreeButCount R s s') (e : Event) : AgreeButCount R (s.note e) (s'.note e) := by
  obtain ⟨l, c, hr, rfl⟩ := h
  exact ⟨e :: l, c, unseen.cons e hr, rfl⟩

theorem memRead (h : AgreeButCount R s s') (a : Word) : AgreeButCount R (s.memRead a).2 (s'.memRead a).2 := by
  rw [State.memRead_snd, State.memRead_snd, h.busByte unseen]
  exact h.note unseen _

theorem memWrite (h : AgreeButCount R s s') (a : Word) (v : Byte) :
    AgreeButCount R (s.memWrite a v) (s'.memWrite a v) := by
  obtain ⟨l, c, hr, rfl⟩ := h
  exact ⟨_, c, unseen.cons (.write a v) hr, rfl⟩

theorem readPair (h : AgreeButCount R s s') (lo hi : Word) :
    (s'.readPair lo hi).1 = (s.readPair lo hi).1 ∧ AgreeButCount R (s.readPair lo hi).2 (s'.readPair lo hi).2 :=
  ⟨congrArg₂ mkWord ((h.memRead unseen lo).busByte unseen hi) (h.busByte unseen lo),
    (h.memRead unseen lo).memRead unseen hi⟩

/-! The end of a step: the counts are equal again. -/

theorem jumpTo (h : AgreeButCount R s s') (target : Word) (n : Nat) :
    Agree R (s.jumpTo target n) (s'.jumpTo target n) := by
  obtain ⟨l, c, hr, rfl⟩ := h
  exact ⟨_, unseen.cons (.tick n) hr, rfl⟩

theorem retire (h : AgreeButCount R s s') (length n : Nat) : Agree R (s.retire length n) (s'.retire length n) := by
  obtain ⟨l, c, hr, rfl⟩ := h
  exact ⟨_, unseen.cons (.tick n) hr, rfl⟩

/-! The stack. -/

theorem push (h : AgreeButCount R s s') (v : Byte) : AgreeButCount R (s.push v) (s'.push v) := by
  obtain ⟨l, c, hr, rfl⟩ := h
  exact ⟨_, c, unseen.cons (.write (stackAddr s.sp) v) hr, rfl⟩

theorem pushWord (h : AgreeButCount R s s') (w : Word) : AgreeButCount R (s.pushWord w) (s'.pushWord w) :=
  (h.push unseen _).push unseen _

theorem pull (h : AgreeButCount R s s') : s'.pull.1 = s.pull.1 ∧ AgreeButCount R s.pull.2 s'.pull.2 := by
  have byte := h.busByte unseen (stackAddr (s.sp + 1))
  have raised := (h.setReg .s (s.sp + 1)).memRead unseen (stackAddr (s.sp + 1))
  obtain ⟨l, c, hr, rfl⟩ := h
  exact ⟨byte, raised⟩

theorem pullWord (h : AgreeButCount R s s') :
    s'.pullWord.1 = s.pullWord.1 ∧ AgreeButCount R s.pullWord.2 s'.pullWord.2 := by
  obtain ⟨low, first⟩ := h.pull unseen
  obtain ⟨high, both⟩ := first.pull unseen
  exact ⟨congrArg₂ mkWord high low, both⟩

theorem takeException (h : AgreeButCount R s s') (ret : Word) (status : Byte) (vec : Word) :
    Agree R (s.takeException ret status vec) (s'.takeException ret status vec) := by
  obtain ⟨target, read⟩ :=
    (((h.pushWord unseen ret).push unseen status).setFlag .i true).readPair unseen vec (vec + 1)
  rw [State.takeException_eq, State.takeException_eq, target]
  exact read.jumpTo unseen _ _

/-! Operands. -/

theorem locate (h : AgreeButCount R s s') (m : Mode) :
    (s'.locate m).ea = (s.locate m).ea ∧ (s'.locate m).crossed = (s.locate m).crossed ∧
      AgreeButCount R (s.locate m).st (s'.locate m).st := by
  have pointer p := h.readPair unseen (zext16 p) (zext16 (p + 1))
  cases m with
  | zp b | abs w => exact ⟨rfl, rfl, h⟩
  | zpx b | absx w => simp only [State.locate, Located.indexed, h.x]; exact ⟨trivial, trivial, h⟩
  | zpy b | absy w => simp only [State.locate, Located.indexed, h.y]; exact ⟨trivial, trivial, h⟩
  | indx b =>
    simp only [State.locate, State.zpPointer, h.x, (pointer _).1]
    exact ⟨trivial, trivial, (pointer _).2⟩
  | indy b =>
    simp only [State.locate, Located.indexed, State.zpPointer, h.y, (pointer _).1]
    exact ⟨trivial, trivial, (pointer _).2⟩

theorem operand (h : AgreeButCount R s s') (src : Source) :
    (s'.operand src).val = (s.operand src).val ∧ (s'.operand src).crossed = (s.operand src).crossed ∧
      AgreeButCount R (s.operand src).st (s'.operand src).st := by
  cases src with
  | imm b => exact ⟨rfl, rfl, h⟩
  | mem m =>
    obtain ⟨ea, crossed, st⟩ := h.locate unseen m
    simp only [State.operand, ea]
    exact ⟨st.busByte unseen _, crossed, st.memRead unseen _⟩

end AgreeButCount

/-- Every form answers agreeing machines from machines that agree but for the count: each is a chain of reads and
writes that see neither record nor count, and ends by setting the count. -/
theorem Form.run_agree {R : List Event → List Event → Prop} (unseen : Unseen R) (f : Form) {s s' : State}
    (h : AgreeButCount R s s') : Agree R (f.run s) (f.run s') := by
  have operand src := h.operand unseen src
  have locate m := h.locate unseen m
  cases f with
  | load r src n =>
    obtain ⟨val, crossed, st⟩ := operand src
    simp only [run, State.load, val, crossed]
    exact ((st.setReg r _).setZN _).retire unseen _ _
  | store r m n =>
    obtain ⟨ea, -, st⟩ := locate m
    simp only [run, State.store_eq, ea, h.reg]
    exact (st.memWrite unseen _ _).retire unseen _ _
  | transfer src dst n =>
    simp only [run, State.transfer, h.reg]
    exact ((h.setReg dst _).setZN _).retire unseen _ _
  | txs =>
    simp only [run, h.x]
    exact (h.setReg .s _).retire unseen _ _
  | pha =>
    simp only [run, h.a]
    exact (h.push unseen _).retire unseen _ _
  | php =>
    simp only [run, h.p]
    exact (h.push unseen _).retire unseen _ _
  | pla =>
    obtain ⟨val, st⟩ := h.pull unseen
    simp only [run, val]
    exact ((st.setReg .a _).setZN _).retire unseen _ _
  | plp =>
    obtain ⟨val, st⟩ := h.pull unseen
    simp only [run, val]
    exact (st.setStatus _).retire unseen _ _
  | adc src n | sbc src n =>
    obtain ⟨val, crossed, st⟩ := operand src
    simp only [run, State.arith, val, crossed, st.a, st.flag]
    exact ((((st.setFlag .c _).setFlag .v _).setReg .a _).setZN _).retire unseen _ _
  | compare r src n =>
    obtain ⟨val, crossed, st⟩ := operand src
    simp only [run, State.compare, val, crossed, st.reg]
    exact ((st.setFlag .c _).setZN _).retire unseen _ _
  | and src n | ora src n | eor src n =>
    obtain ⟨val, crossed, st⟩ := operand src
    simp only [run, State.logic, val, crossed, st.a]
    exact ((st.setReg .a _).setZN _).retire unseen _ _
  | bit src n =>
    obtain ⟨val, crossed, st⟩ := operand src
    simp only [run, State.bitTest, val, crossed, st.a]
    exact (((st.setFlag .z _).setFlag .n _).setFlag .v _).retire unseen _ _
  | shiftAcc op n =>
    simp only [run, State.shiftAcc, h.a, h.flag]
    exact (((h.setFlag .c _).setZN _).setReg .a _).retire unseen _ _
  | shiftMem op m n =>
    obtain ⟨ea, -, st⟩ := locate m
    have read := st.memRead unseen (s.locate m).ea
    have byte := st.busByte unseen (s.locate m).ea
    simp only [run, State.shiftMem, ea, read.flag, State.memRead_fst, byte]
    exact (((read.setFlag .c _).setZN _).memWrite unseen _ _).retire unseen _ _
  | incMem d m n =>
    obtain ⟨ea, -, st⟩ := locate m
    have byte := st.busByte unseen (s.locate m).ea
    simp only [run, State.incMem, ea, State.memRead_fst, byte]
    exact (((st.memRead unseen _).setZN _).memWrite unseen _ _).retire unseen _ _
  | incReg d r n =>
    simp only [run, State.incReg, h.reg]
    exact ((h.setReg r _).setZN _).retire unseen _ _
  | jmp w => exact h.jumpTo unseen w 3
  | jmpInd w =>
    obtain ⟨target, st⟩ := h.readPair unseen w ((w &&& 0xFF00) ||| ((w + 1) &&& 0x00FF))
    simp only [run, State.indirect, target]
    exact st.jumpTo unseen _ _
  | jsr w =>
    simp only [run, h.pc]
    exact (h.pushWord unseen _).jumpTo unseen _ _
  | rts =>
    obtain ⟨target, st⟩ := h.pullWord unseen
    simp only [run, target]
    exact st.jumpTo unseen _ _
  | branch f want b =>
    simp only [run, State.branch, h.flag, h.pc]
    split <;> exact h.jumpTo unseen _ _
  | flag f b => exact (h.setFlag f b).retire unseen 1 2
  | nop => exact h.retire unseen 1 2
  | brk =>
    simp only [run, h.pc, h.p]
    exact h.takeException unseen _ _ _
  | rti =>
    obtain ⟨status, st⟩ := h.pull unseen
    obtain ⟨target, st⟩ := (st.setStatus s.pull.1).pullWord unseen
    simp only [run, State.returnFromException, status, target]
    exact st.jumpTo unseen _ _
  | illegal op => exact h.raiseDecodeError op

/-! ### A whole step -/

section
variable {R : List Event → List Event → Prop} {s s' : State} (unseen : Unseen R)
include unseen

theorem AgreeButCount.fetch (h : AgreeButCount R s s') :
    s'.fetch.1 = s.fetch.1 ∧ AgreeButCount R s.fetch.2 s'.fetch.2 := by
  have opcode : s'.busByte s'.pc = s.busByte s.pc := by rw [h.pc, h.busByte unseen]
  have first := h.memRead unseen s.pc
  cases cell : opcodeEntry (s.busByte s.pc) with
  | one i =>
    rw [fetch_of_entry_one cell, fetch_of_entry_one (opcode ▸ cell), opcode, h.pc]
    exact ⟨rfl, h.note unseen _⟩
  | two f =>
    rw [fetch_of_entry_two cell, fetch_of_entry_two (opcode ▸ cell), h.pc]
    exact ⟨congrArg f (first.busByte unseen _), first.memRead unseen _⟩
  | three f =>
    obtain ⟨word, st⟩ := first.readPair unseen (s.pc + 1) (s.pc + 2)
    rw [fetch_of_entry_three cell, fetch_of_entry_three (opcode ▸ cell), h.pc]
    exact ⟨congrArg f word, st⟩

/-- The environment's actions keep the agreement: reset reads the bus, the others write what no record decides. -/
theorem AgreeButCount.act (h : AgreeButCount R s s') (e : EnvAction) : AgreeButCount R (s.act e) (s'.act e) := by
  cases e with
  | reset =>
    obtain ⟨target, read⟩ := h.readPair unseen resetVector (resetVector + 1)
    obtain ⟨l, c, hr, credited⟩ := read.note unseen (.tick Config.resetCycles)
    exact ⟨l, none, hr, by simp only [State.act, State.doReset, target, credited]⟩
  | outside k => exact h.note unseen _
  | raiseNmi | setIrq level | patchRam index v =>
    obtain ⟨l, c, hr, rfl⟩ := h
    exact ⟨l, c, hr, rfl⟩

theorem AgreeButCount.actAll (now : List EnvAction) (h : AgreeButCount R s s') :
    AgreeButCount R (State.actAll now s) (State.actAll now s') := by
  induction now generalizing s s' with
  | nil => exact h
  | cons e later ih => exact ih (h.act unseen e)

theorem AgreeButCount.applyInputs (h : AgreeButCount R s s') : AgreeButCount R s.applyInputs s'.applyInputs := by
  have sameScript : s'.inputs = s.inputs := by
    obtain ⟨l, c, -, rfl⟩ := h
    rfl
  unfold State.applyInputs
  rw [sameScript]
  split
  · exact h
  · next now later _ =>
    refine AgreeButCount.actAll unseen now ?_
    obtain ⟨l, c, hr, rfl⟩ := h
    exact ⟨l, c, hr, rfl⟩

theorem AgreeButCount.interruptEntry (h : AgreeButCount R s s') (vec : Word) :
    Agree R (s.interruptEntry vec) (s'.interruptEntry vec) := by
  rw [State.interruptEntry, State.interruptEntry, h.pc, h.p]
  exact h.takeException unseen _ _ _

theorem AgreeButCount.enterNmi (h : AgreeButCount R s s') : Agree R s.enterNmi s'.enterNmi := by
  obtain ⟨l, c, hr, rfl⟩ := h
  have cleared : AgreeButCount R { s with nmiPending := false }
      { s with nmiPending := false, trace := l, cycles := c } := ⟨l, c, hr, rfl⟩
  exact cleared.interruptEntry unseen nmiVector

end

/-- The outcomes are the same: next states that agree, or the same fault. -/
def SameOutcome (R : List Event → List Event → Prop) (o o' : Result) : Prop :=
  (∀ t, o = .next t → ∃ t', o' = .next t' ∧ Agree R t t') ∧ ∀ e, o = .fault e → o' = .fault e

theorem sameOutcome_next {R : List Event → List Event → Prop} {t t' : State} (h : Agree R t t') :
    SameOutcome R (.next t) (.next t') := by
  refine ⟨fun u hu => ⟨t', rfl, ?_⟩, fun e he => nomatch he⟩
  cases hu
  exact h

/-- Machines that agree but for the count make the same step: the poll finds the same, and what it finds answers
agreeing machines. -/
theorem step_agree {R : List Event → List Event → Prop} (unseen : Unseen R) {s s' : State} (h : AgreeButCount R s s') :
    SameOutcome R (step s) (step s') := by
  have landed := h.applyInputs unseen
  unfold step
  rw [landed.poll]
  cases s.applyInputs.poll with
  | stuck e => exact ⟨fun t ht => (nomatch ht), fun _ stop => stop⟩
  | nmi => exact sameOutcome_next (landed.enterNmi unseen)
  | irq => exact sameOutcome_next (landed.interruptEntry unseen irqVector)
  | instruction =>
    obtain ⟨fetched, read⟩ := landed.fetch unseen
    dsimp only
    rw [fetched, exec_eq, exec_eq]
    exact sameOutcome_next (Form.run_agree unseen _ read)

/-! ### The obligations -/

theorem unseen_eq : Unseen Eq := ⟨fun e h => congrArg (e :: ·) h, fun h => congrArg _ h.symm⟩

/-- Records with the same part outside RAM (R35, R36, R48). -/
theorem unseen_history : Unseen fun l l' => l'.filter isDevEvent = l.filter isDevEvent := by
  refine ⟨fun e h => ?_, id⟩
  rw [List.filter_cons, List.filter_cons, h]

/-- Settles O59: machines that differ in the count alone have equal records, so the states they step to are equal. -/
theorem cycleCountIsOutputOnly : Obligations.CycleCountIsOutputOnly := by
  intro s c
  obtain ⟨next, stop⟩ := step_agree unseen_eq (s := s) (s' := { s with cycles := c }) ⟨s.trace, c, rfl, rfl⟩
  cases outcome : step s with
  | next t =>
    obtain ⟨t', step', l, rfl, rfl⟩ := next t outcome
    exact step'
  | fault e => exact stop e outcome
  | refused r => exact absurd outcome ((onlyALatchedFaultStops s).2 r)

/-- Settles O60: the records of the two machines have the same part outside RAM, which is what the environment has
seen. -/
theorem ramAccessesAreInvisible : Obligations.RamAccessesAreInvisible := by
  intro s s' same seen
  obtain ⟨next, stop⟩ := step_agree unseen_history (s := s) (s' := s') ⟨s'.trace, s.cycles, seen, same⟩
  refine ⟨fun t ht => ?_, stop⟩
  obtain ⟨t', step', l, seen', rfl⟩ := next t ht
  exact ⟨_, step', rfl, seen'⟩

end Sys2Proof.Machine
end
